-- ==== Sys2Proof/Word.lean ====
section
/-! DEFINITION. Words, samples, item numbers and fixed tables: the plain types the whole model is written in. -/

/-- Entry `i` of a fixed table. -/
def Vector.entry {α : Type} {n : Nat} (v : Vector α n) (i : Fin n) : α := v[i.val]

/-- The table with entry `i` replaced. -/
def Vector.put {α : Type} {n : Nat} (v : Vector α n) (i : Fin n) (x : α) : Vector α n := v.set i.val x

/-- The table with entry `i` changed by `f`. -/
def Vector.alter {α : Type} {n : Nat} (v : Vector α n) (i : Fin n) (f : α → α) : Vector α n := v.put i (f (v.entry i))

/-- The table whose entry `i` is `f i`. -/
def Vector.tabulate {α : Type} {n : Nat} (f : Fin n → α) : Vector α n :=
  ⟨⟨(List.finRange n).map f⟩, by simp⟩

/-- Every entry changed, each by its own number. -/
def Vector.mapEntries {α β : Type} {n : Nat} (f : Fin n → α → β) (v : Vector α n) : Vector β n :=
  Vector.tabulate fun i => f i (v.entry i)

namespace Sys2Proof

/-- A byte on a control port, a delegate line or the booth link (section 11.4). -/
abbrev Byte := BitVec 8

/-- An audio sample: 24 bits, two's complement (section 11.4). -/
abbrev Sample := BitVec 24

/-- Hall segments 0–7. A group is named by its anchor, the lowest of its segments. -/
abbrev Seg := Fin 8
/-- Partition walls 0–9. -/
abbrev WallId := Fin 10
/-- Delegate lines 0–3. -/
abbrev LineId := Fin 4
/-- Seat index: line × 64 + address − 1. -/
abbrev SeatId := Fin 256
/-- Uplink slots 0–7 of a line. -/
abbrev SlotNo := Fin 8
/-- Interpretation booths 0–11. -/
abbrev BoothId := Fin 12
/-- Desks 0–2 of a booth. -/
abbrev DeskNo := Fin 3
/-- Language channels 0–31. -/
abbrev ChanId := Fin 32
/-- Control ports 0–3. -/
abbrev PortId := Fin 4
/-- Gain points 0–167 (R152). -/
abbrev PointId := Fin 168
/-- Outputs 0–75 of the mix (R147). -/
abbrev OutId := Fin 76
/-- Language codes: 0 is the floor, 1–63 are languages. -/
abbrev Lang := Fin 64

/-- A booth output. -/
inductive Output where
  | a
  | b
  deriving DecidableEq, Repr

/-- The number `n` as an item number below `k`, where it is one. -/
def item? (k n : Nat) : Option (Fin k) := if h : n < k then some ⟨n, h⟩ else none

end Sys2Proof
end

