-- ==== Sys2Proof/Config.lean ====
section
/-! DEFINITION. The capacities of section "Capacities" of 00_scope.md, and the codes that the spec leaves open. -/

namespace Sys2Proof.Config

/-- Entries of a group's waiting list (R57, R58). -/
def waitingCap : Nat := 48
/-- Languages of a group after its floor slot (R114). -/
def languageCap : Nat := 12
/-- Notices of a port's queue (R164). -/
def queueCap : Nat := 32
/-- The value at which the request stamp counter is exhausted (R61). -/
def lastStamp : Nat := 4294967295
/-- Where a 16-bit counter saturates ("Conventions" of 00_scope.md). -/
def counterTop : Nat := 65535
/-- Missing frames in a row that take a booth OFFLINE (R94, R95). -/
def offlineRun : Nat := 4800
/-- Missed rounds in a row that lose a seat (R45). -/
def lostRounds : Nat := 2
/-- Milliseconds of one half second of settle time (R1, R8). -/
def halfSecond : Nat := 500
/-- Milliseconds of one second of presence timeout (R170). -/
def second : Nat := 1000

/-- FREE CODE: the byte of a CHANNELS record for the content UNDER (`none`) or BOOTH with its number
(R127, R181: the record has one byte for the content, and no rule gives its codes past FLOOR). -/
opaque contentCode : Option BoothId → BitVec 8
/-- FREE CODE: the byte of READ_LINE_STATUS for a fault record CHAIN_BREAK with the address reached (R55, R181). -/
opaque chainBreakCode : Nat → BitVec 8
/-- FREE CODE: the two bytes of READ_LINE_STATUS for a free uplink slot (R55: "or free"). -/
opaque freeSlotCode : BitVec 16
/-- FREE CODE: the four bytes for an absent stamp in a SEATS record or a READ_FLOOR entry (R55: "marked absent"). -/
opaque absentStampCode : BitVec 32
/-- FREE CODE: the two bytes of READ_TIMES for the remaining time of an UNTIMED speaker (R89, R91). -/
opaque untimedCode : BitVec 16

end Sys2Proof.Config
end

