-- ==== Sys2Proof/Syntax.lean ====
section
/-! DEFINITION. The commands and events of the part: one constructor per row of spec/opcode_table.json. -/

namespace Sys2Proof

/-- One step of the part. A command of a control port carries the issuing port and the parameter bytes of its frame;
the bytes are judged by R166 and decoded by R181 when the command is taken. -/
inductive Instr where
  /-- SET_WALL_ENDS (R9), code 16: wall, segment, segment (3). -/
  | setWallEnds (port : PortId) (params : List Byte)
  /-- SET_WALL_OVERRIDE (R6), code 17: wall, override (2). -/
  | setWallOverride (port : PortId) (params : List Byte)
  /-- SET_WALL_SETTLE (R8), code 18: wall, half seconds (2). -/
  | setWallSettle (port : PortId) (params : List Byte)
  /-- CONFIRM_REGROUP (R15), code 19: — (0). -/
  | confirmRegroup (port : PortId) (params : List Byte)
  /-- CANCEL_REGROUP (R16), code 20: — (0). -/
  | cancelRegroup (port : PortId) (params : List Byte)
  /-- SET_PROFILE_SELECT (R20), code 32: segment, profile (2). -/
  | setProfileSelect (port : PortId) (params : List Byte)
  /-- SET_LOAD_SELECT (R23), code 33: profile (1). -/
  | setLoadSelect (port : PortId) (params : List Byte)
  /-- WRITE_PROFILE_FIELD (R24), code 34: field, value (3). -/
  | writeProfileField (port : PortId) (params : List Byte)
  /-- READ_PROFILE (R32), code 35: profile (1). -/
  | readProfile (port : PortId) (params : List Byte)
  /-- ENUMERATE_LINE (R34), code 48: line, verify, force (3). -/
  | enumerateLine (port : PortId) (params : List Byte)
  /-- CANCEL_LINE_OPERATION (R39), code 49: line, notify (2). -/
  | cancelLineOperation (port : PortId) (params : List Byte)
  /-- SET_SEAT_SEGMENT (R52), code 50: seat, segment (3). -/
  | setSeatSegment (port : PortId) (params : List Byte)
  /-- SET_SEAT_TRIM (R53), code 51: seat, trim (3). -/
  | setSeatTrim (port : PortId) (params : List Byte)
  /-- SET_SEAT_MASK (R54), code 52: seat, mask (3). -/
  | setSeatMask (port : PortId) (params : List Byte)
  /-- READ_LINE_STATUS (R55), code 53: line, clear (2). -/
  | readLineStatus (port : PortId) (params : List Byte)
  /-- OPEN_SESSION (R67), code 64: group (1). -/
  | openSession (port : PortId) (params : List Byte)
  /-- CLOSE_SESSION (R68), code 65: group (1). -/
  | closeSession (port : PortId) (params : List Byte)
  /-- GRANT_NEXT (R78), code 66: group (1). -/
  | grantNext (port : PortId) (params : List Byte)
  /-- GRANT_SEAT (R78), code 67: group, seat (3). -/
  | grantSeat (port : PortId) (params : List Byte)
  /-- CLOSE_SEAT (R79), code 68: group, seat (3). -/
  | closeSeat (port : PortId) (params : List Byte)
  /-- CANCEL_REQUEST (R79), code 69: group, seat (3). -/
  | cancelRequest (port : PortId) (params : List Byte)
  /-- CLOSE_ALL (R80), code 70: group (1). -/
  | closeAll (port : PortId) (params : List Byte)
  /-- CLEAR_LIST (R80), code 71: group (1). -/
  | clearList (port : PortId) (params : List Byte)
  /-- READ_FLOOR (R81), code 72: group, collection, position (3). -/
  | readFloor (port : PortId) (params : List Byte)
  /-- EXTEND_TIME (R88), code 80: seat, seconds (4). -/
  | extendTime (port : PortId) (params : List Byte)
  /-- LATCH_TIMES (R90), code 81: group (1). -/
  | latchTimes (port : PortId) (params : List Byte)
  /-- READ_TIMES (R91), code 82: — (0). -/
  | readTimes (port : PortId) (params : List Byte)
  /-- SET_BOOTH_HOME (R107), code 96: booth, home (2). -/
  | setBoothHome (port : PortId) (params : List Byte)
  /-- SET_BOOTH_OUTPUTS (R109), code 97: booth, language A, language B (3). -/
  | setBoothOutputs (port : PortId) (params : List Byte)
  /-- SET_BOOTH_MODE (R110), code 98: booth, mode (2). -/
  | setBoothMode (port : PortId) (params : List Byte)
  /-- SET_DESK_RELAY (R111), code 99: booth, desk, source (3). -/
  | setDeskRelay (port : PortId) (params : List Byte)
  /-- READ_BOOTH_STATUS (R112), code 100: booth, clear (2). -/
  | readBoothStatus (port : PortId) (params : List Byte)
  /-- ADD_LANGUAGE (R122), code 112: group, language (2). -/
  | addLanguage (port : PortId) (params : List Byte)
  /-- REMOVE_LANGUAGE (R123), code 113: group, language (2). -/
  | removeLanguage (port : PortId) (params : List Byte)
  /-- SET_CHANNEL_LEVEL (R126), code 114: channel, level (2). -/
  | setChannelLevel (port : PortId) (params : List Byte)
  /-- READ_LANGUAGES (R127), code 115: group, position (2). -/
  | readLanguages (port : PortId) (params : List Byte)
  /-- SET_GROUP_FADER (R162), code 144: group, fader (2). -/
  | setGroupFader (port : PortId) (params : List Byte)
  /-- READ_MIX_STATUS (R163), code 145: starting output, clear (2). -/
  | readMixStatus (port : PortId) (params : List Byte)
  /-- READ_GAIN_POINT (R163), code 146: point (1). -/
  | readGainPoint (port : PortId) (params : List Byte)
  /-- SET_SUPERVISOR (R167), code 160: port (1). -/
  | setSupervisor (port : PortId) (params : List Byte)
  /-- SET_INTERP_PORT (R167), code 161: port (1). -/
  | setInterpPort (port : PortId) (params : List Byte)
  /-- SET_HOME_PORT (R167), code 162: segment, port (2). -/
  | setHomePort (port : PortId) (params : List Byte)
  /-- SET_PRESENCE_TIMEOUT (R171), code 163: port, seconds (2). -/
  | setPresenceTimeout (port : PortId) (params : List Byte)
  /-- SET_PORT_FENCE (R172), code 164: port (1). -/
  | setPortFence (port : PortId) (params : List Byte)
  /-- CLEAR_PORT_FENCE (R172), code 165: port (1). -/
  | clearPortFence (port : PortId) (params : List Byte)
  /-- SELECT_RECORD (R173), code 166: table, index (2). -/
  | selectRecord (port : PortId) (params : List Byte)
  /-- READ_NEXT (R173), code 167: count (1). -/
  | readNext (port : PortId) (params : List Byte)
  /-- READ_STATUS (R174), code 168: — (0). -/
  | readStatus (port : PortId) (params : List Byte)
  /-- READ_PORTS (R175), code 169: — (0). -/
  | readPorts (port : PortId) (params : List Byte)
  /-- PORT_RESET (R176), code 170: — (0). -/
  | portReset (port : PortId) (params : List Byte)
  /-- SET_SUBSCRIPTION (R179), code 176: set of categories (1). -/
  | setSubscription (port : PortId) (params : List Byte)
  /-- READ_NOTICES (R180), code 177: count (1). -/
  | readNotices (port : PortId) (params : List Byte)
  /-- UNKNOWN_COMMAND (R166): the frame’s command code and parameter bytes. -/
  | unknownCommand (port : PortId) (code : Byte) (params : List Byte)
  /-- LENGTH_ABOVE_30 (R165): the frame’s command code and its length byte. -/
  | lengthAbove30 (port : PortId) (code length : Byte)
  /-- FRAME_DISCARDED (R165). -/
  | frameDiscarded (port : PortId)
  /-- HARD_RESET (R18). -/
  | hardReset
  /-- CONTACT_CHANGE (R2): the wall, and whether each contact is now made. -/
  | contactChange (wall : WallId) (openMade closedMade : Bool)
  /-- SETTLE_TIMER_EXPIRY (R4). -/
  | settleTimerExpiry (wall : WallId)
  /-- ADDRESSING_ACKNOWLEDGE (R36): the address taken and the chain-end flag. -/
  | addressingAcknowledge (line : LineId) (address : Byte) (chainEnd : Bool)
  /-- STEP_TIMEOUT (R37). -/
  | stepTimeout (line : LineId)
  /-- SEAT_REPLY (R42): the five bytes of the reply (section 11.4). -/
  | seatReply (line : LineId) (reply : List Byte)
  /-- REPLY_WINDOW_EXPIRY (R45). -/
  | replyWindowExpiry (line : LineId)
  /-- SPEAKING_CLOCK_EXPIRY (R83). -/
  | speakingClockExpiry
  /-- WORD_CLOCK_FRAME (R148): the sample received in each uplink slot L × 8 + s, absent where none was received. -/
  | wordClockFrame (uplink : Vector (Option Sample) 32)
  /-- CLOCK_LOST (R149). -/
  | clockLost
  /-- BOOTH_FRAME (R94): the bytes found in the booth’s upstream slot (none, or too few, where no booth frame is complete in it). -/
  | boothFrame (booth : BoothId) (frame : List Byte)
  /-- BOOTH_OFFLINE (R95). -/
  | boothOffline (booth : BoothId)
  /-- MIC_KEY (R99): an event that passed checks 1 to 3 of R98. -/
  | micKey (booth : BoothId) (desk : DeskNo)
  /-- OUTPUT_SELECT (R100): an event that passed checks 1 to 3 of R98. -/
  | outputSelect (booth : BoothId) (desk : DeskNo) (output : Output)
  /-- RELAY_SELECT (R104): an event that passed checks 1 to 3 of R98; `none` is FLOOR. -/
  | relaySelect (booth : BoothId) (desk : DeskNo) (source : Option BoothId)
  /-- PRESENCE_TIMER_EXPIRY (R170). -/
  | presenceTimerExpiry (port : PortId)
  /-- SELECT_FALLS (R165). -/
  | selectFalls (port : PortId)
  /-- TRANSACTION_END (R165). -/
  | transactionEnd (port : PortId)
  /-- DESK_EVENT_DISCARDED (R98): the booth of the slot and the bytes of the event. -/
  | deskEventDiscarded (booth : BoothId) (event : List Byte)
  deriving DecidableEq, Repr

end Sys2Proof
end

