-- ==== Sys2Proof/WellFormed.lean ====
section
/-! DEFINITION. Which terms of Instr are steps the interface can carry: the frame limits of R165 and R166 and the layouts of section 11.4. -/

namespace Sys2Proof

/-- The command codes of section 11.5. -/
def commandCodes : List Nat :=
  [16, 17, 18, 19, 20, 32, 33, 34, 35, 48, 49, 50, 51, 52, 53, 64, 65, 66, 67, 68, 69, 70, 71, 72, 80, 81, 82, 96, 97, 98, 99, 100, 112, 113, 114, 115, 144, 145, 146, 160, 161, 162, 163, 164, 165, 166, 167, 168, 169, 170, 176, 177]

/-- The code names a command of the part (section 11.5: "Codes not listed give UNKNOWN_COMMAND"). -/
def isCommandCode (code : Byte) : Bool := commandCodes.contains code.toNat

/-- At most 30 parameter bytes can be framed (R165). -/
def framable (params : List Byte) : Bool := decide (params.length ≤ 30)

/-- The checks that need no state. -/
def Instr.wellFormed : Instr → Bool
  | .setWallEnds _ params => framable params
  | .setWallOverride _ params => framable params
  | .setWallSettle _ params => framable params
  | .confirmRegroup _ params => framable params
  | .cancelRegroup _ params => framable params
  | .setProfileSelect _ params => framable params
  | .setLoadSelect _ params => framable params
  | .writeProfileField _ params => framable params
  | .readProfile _ params => framable params
  | .enumerateLine _ params => framable params
  | .cancelLineOperation _ params => framable params
  | .setSeatSegment _ params => framable params
  | .setSeatTrim _ params => framable params
  | .setSeatMask _ params => framable params
  | .readLineStatus _ params => framable params
  | .openSession _ params => framable params
  | .closeSession _ params => framable params
  | .grantNext _ params => framable params
  | .grantSeat _ params => framable params
  | .closeSeat _ params => framable params
  | .cancelRequest _ params => framable params
  | .closeAll _ params => framable params
  | .clearList _ params => framable params
  | .readFloor _ params => framable params
  | .extendTime _ params => framable params
  | .latchTimes _ params => framable params
  | .readTimes _ params => framable params
  | .setBoothHome _ params => framable params
  | .setBoothOutputs _ params => framable params
  | .setBoothMode _ params => framable params
  | .setDeskRelay _ params => framable params
  | .readBoothStatus _ params => framable params
  | .addLanguage _ params => framable params
  | .removeLanguage _ params => framable params
  | .setChannelLevel _ params => framable params
  | .readLanguages _ params => framable params
  | .setGroupFader _ params => framable params
  | .readMixStatus _ params => framable params
  | .readGainPoint _ params => framable params
  | .setSupervisor _ params => framable params
  | .setInterpPort _ params => framable params
  | .setHomePort _ params => framable params
  | .setPresenceTimeout _ params => framable params
  | .setPortFence _ params => framable params
  | .clearPortFence _ params => framable params
  | .selectRecord _ params => framable params
  | .readNext _ params => framable params
  | .readStatus _ params => framable params
  | .readPorts _ params => framable params
  | .portReset _ params => framable params
  | .setSubscription _ params => framable params
  | .readNotices _ params => framable params
  | .unknownCommand _ code params => !isCommandCode code && framable params
  | .lengthAbove30 _ _ length => decide (30 < length.toNat)
  | .frameDiscarded _ => true
  | .hardReset => true
  | .contactChange _ _ _ => true
  | .settleTimerExpiry _ => true
  | .addressingAcknowledge _ _ _ => true
  | .stepTimeout _ => true
  | .seatReply _ reply => reply.length == 5
  | .replyWindowExpiry _ => true
  | .speakingClockExpiry => true
  | .wordClockFrame _ => true
  | .clockLost => true
  | .boothFrame _ frame => decide (frame.length ≤ 5)
  | .boothOffline _ => true
  | .micKey _ _ => true
  | .outputSelect _ _ _ => true
  | .relaySelect _ _ _ => true
  | .presenceTimerExpiry _ => true
  | .selectFalls _ => true
  | .transactionEnd _ => true
  | .deskEventDiscarded _ event => event.length == 6

end Sys2Proof
end

