-- ==== Sys2Proof/Decode.lean ====
section
/-! DEFINITION. Decoding. spec/opcode_table.json gives no row any bits, so no word spells a command by the table. The byte codes
of section 11.5 are decoded and encoded here as command frames. -/

namespace Sys2Proof

/-- No row of spec/opcode_table.json carries bits (every "fields" list is empty and there is no "fixed"), so a word spells none. -/
def decodeTableWord (_nbits _w : Nat) : Option Instr := none

/-- The command a taken frame gives, by its command code (section 11.5). -/
def commandOf (port : PortId) (code : Byte) (params : List Byte) : Instr :=
  match code.toNat with
  | 16 => .setWallEnds port params
  | 17 => .setWallOverride port params
  | 18 => .setWallSettle port params
  | 19 => .confirmRegroup port params
  | 20 => .cancelRegroup port params
  | 32 => .setProfileSelect port params
  | 33 => .setLoadSelect port params
  | 34 => .writeProfileField port params
  | 35 => .readProfile port params
  | 48 => .enumerateLine port params
  | 49 => .cancelLineOperation port params
  | 50 => .setSeatSegment port params
  | 51 => .setSeatTrim port params
  | 52 => .setSeatMask port params
  | 53 => .readLineStatus port params
  | 64 => .openSession port params
  | 65 => .closeSession port params
  | 66 => .grantNext port params
  | 67 => .grantSeat port params
  | 68 => .closeSeat port params
  | 69 => .cancelRequest port params
  | 70 => .closeAll port params
  | 71 => .clearList port params
  | 72 => .readFloor port params
  | 80 => .extendTime port params
  | 81 => .latchTimes port params
  | 82 => .readTimes port params
  | 96 => .setBoothHome port params
  | 97 => .setBoothOutputs port params
  | 98 => .setBoothMode port params
  | 99 => .setDeskRelay port params
  | 100 => .readBoothStatus port params
  | 112 => .addLanguage port params
  | 113 => .removeLanguage port params
  | 114 => .setChannelLevel port params
  | 115 => .readLanguages port params
  | 144 => .setGroupFader port params
  | 145 => .readMixStatus port params
  | 146 => .readGainPoint port params
  | 160 => .setSupervisor port params
  | 161 => .setInterpPort port params
  | 162 => .setHomePort port params
  | 163 => .setPresenceTimeout port params
  | 164 => .setPortFence port params
  | 165 => .clearPortFence port params
  | 166 => .selectRecord port params
  | 167 => .readNext port params
  | 168 => .readStatus port params
  | 169 => .readPorts port params
  | 170 => .portReset port params
  | 176 => .setSubscription port params
  | 177 => .readNotices port params
  | _ => .unknownCommand port code params

/-- The command that the bytes of one frame give: code, length, parameters (section 11.4). A length above 30 is taken at once
(R165); a frame with fewer or more bytes than its length gives is not a complete frame. -/
def decodeFrame (port : PortId) (frame : List Byte) : Option Instr :=
  match frame with
  | code :: length :: params =>
    if 30 < length.toNat then
      if params = [] then some (.lengthAbove30 port code length) else none
    else if params.length = length.toNat then some (commandOf port code params)
    else none
  | _ => none

/-- The bytes of a frame: code, length, parameters. -/
def frameBytes (code : Byte) (params : List Byte) : List Byte := code :: BitVec.ofNat 8 params.length :: params

/-- The port and the frame of a command of a control port; absent for the rows that no frame carries. -/
def encodeFrame : Instr → Option (PortId × List Byte)
  | .setWallEnds port params => some (port, frameBytes 16 params)
  | .setWallOverride port params => some (port, frameBytes 17 params)
  | .setWallSettle port params => some (port, frameBytes 18 params)
  | .confirmRegroup port params => some (port, frameBytes 19 params)
  | .cancelRegroup port params => some (port, frameBytes 20 params)
  | .setProfileSelect port params => some (port, frameBytes 32 params)
  | .setLoadSelect port params => some (port, frameBytes 33 params)
  | .writeProfileField port params => some (port, frameBytes 34 params)
  | .readProfile port params => some (port, frameBytes 35 params)
  | .enumerateLine port params => some (port, frameBytes 48 params)
  | .cancelLineOperation port params => some (port, frameBytes 49 params)
  | .setSeatSegment port params => some (port, frameBytes 50 params)
  | .setSeatTrim port params => some (port, frameBytes 51 params)
  | .setSeatMask port params => some (port, frameBytes 52 params)
  | .readLineStatus port params => some (port, frameBytes 53 params)
  | .openSession port params => some (port, frameBytes 64 params)
  | .closeSession port params => some (port, frameBytes 65 params)
  | .grantNext port params => some (port, frameBytes 66 params)
  | .grantSeat port params => some (port, frameBytes 67 params)
  | .closeSeat port params => some (port, frameBytes 68 params)
  | .cancelRequest port params => some (port, frameBytes 69 params)
  | .closeAll port params => some (port, frameBytes 70 params)
  | .clearList port params => some (port, frameBytes 71 params)
  | .readFloor port params => some (port, frameBytes 72 params)
  | .extendTime port params => some (port, frameBytes 80 params)
  | .latchTimes port params => some (port, frameBytes 81 params)
  | .readTimes port params => some (port, frameBytes 82 params)
  | .setBoothHome port params => some (port, frameBytes 96 params)
  | .setBoothOutputs port params => some (port, frameBytes 97 params)
  | .setBoothMode port params => some (port, frameBytes 98 params)
  | .setDeskRelay port params => some (port, frameBytes 99 params)
  | .readBoothStatus port params => some (port, frameBytes 100 params)
  | .addLanguage port params => some (port, frameBytes 112 params)
  | .removeLanguage port params => some (port, frameBytes 113 params)
  | .setChannelLevel port params => some (port, frameBytes 114 params)
  | .readLanguages port params => some (port, frameBytes 115 params)
  | .setGroupFader port params => some (port, frameBytes 144 params)
  | .readMixStatus port params => some (port, frameBytes 145 params)
  | .readGainPoint port params => some (port, frameBytes 146 params)
  | .setSupervisor port params => some (port, frameBytes 160 params)
  | .setInterpPort port params => some (port, frameBytes 161 params)
  | .setHomePort port params => some (port, frameBytes 162 params)
  | .setPresenceTimeout port params => some (port, frameBytes 163 params)
  | .setPortFence port params => some (port, frameBytes 164 params)
  | .clearPortFence port params => some (port, frameBytes 165 params)
  | .selectRecord port params => some (port, frameBytes 166 params)
  | .readNext port params => some (port, frameBytes 167 params)
  | .readStatus port params => some (port, frameBytes 168 params)
  | .readPorts port params => some (port, frameBytes 169 params)
  | .portReset port params => some (port, frameBytes 170 params)
  | .setSubscription port params => some (port, frameBytes 176 params)
  | .readNotices port params => some (port, frameBytes 177 params)
  | .unknownCommand port code params => some (port, frameBytes code params)
  | .lengthAbove30 port code length => some (port, [code, length])
  | .frameDiscarded _ => none
  | .hardReset => none
  | .contactChange _ _ _ => none
  | .settleTimerExpiry _ => none
  | .addressingAcknowledge _ _ _ => none
  | .stepTimeout _ => none
  | .seatReply _ _ => none
  | .replyWindowExpiry _ => none
  | .speakingClockExpiry => none
  | .wordClockFrame _ => none
  | .clockLost => none
  | .boothFrame _ _ => none
  | .boothOffline _ => none
  | .micKey _ _ => none
  | .outputSelect _ _ _ => none
  | .relaySelect _ _ _ => none
  | .presenceTimerExpiry _ => none
  | .selectFalls _ => none
  | .transactionEnd _ => none
  | .deskEventDiscarded _ _ => none

end Sys2Proof
end

