-- ==== Sys2Proof/Machine/State.lean ====
section
/-! DEFINITION. Everything the spec gives the part, as plain data, and the part right after hard reset. Item numbers are in
Sys2Proof/Word.lean. A docstring names the rule that gives the item. -/

namespace Sys2Proof.Machine

/-! ## Topology Unit (chapter 1) -/

/-- The override of a wall (R1). -/
inductive Override where
  | follow
  | forceOpen
  | forceClosed
  deriving DecidableEq, Repr

/-- The resolved state of a wall (R2). -/
inductive Resolved where
  | opened
  | closed
  | moving
  | fault
  deriving DecidableEq, Repr

/-- The settle status of a wall (R1, R3). -/
inductive SettleStatus where
  | settling
  | settled
  | stopped
  deriving DecidableEq, Repr

/-- The effective state of a wall (R1). -/
inductive WallPos where
  | opened
  | closed
  deriving DecidableEq, Repr

/-- The wall record of R1, with the two contacts of R2. -/
structure Wall where
  /-- The open contact reads made. -/
  openContact : Bool
  /-- The closed contact reads made. -/
  closedContact : Bool
  /-- The two segments, the lower first; absent when UNASSIGNED. -/
  ends : Option (Seg × Seg)
  /-- Settle time in half seconds, 1–16. -/
  settle : Nat
  override : Override
  resolved : Resolved
  status : SettleStatus
  /-- Stable time in milliseconds. -/
  stable : Nat
  effective : WallPos
  deriving DecidableEq, Repr

/-- A grouping of the segments: each segment's anchor (R10, R11). -/
abbrev Topology := Vector Seg 8

/-- The regroup states of section 1.8. -/
inductive Regroup where
  | inStep
  | pending
  | held
  deriving DecidableEq, Repr

/-! ## Profile Store (chapter 2) -/

/-- The three profile records (R19). -/
inductive ProfileId where
  | default
  | set1
  | set2
  deriving DecidableEq, Repr

inductive FloorMode where
  | override
  | queue
  | chair
  deriving DecidableEq, Repr

inductive LimitAction where
  | close
  | warn
  deriving DecidableEq, Repr

inductive PriorityMode where
  | muteWhileHeld
  | cancelAll
  deriving DecidableEq, Repr

inductive RegroupPolicy where
  | auto
  | armed
  deriving DecidableEq, Repr

/-- A profile record, and a group's effective parameters (R19, R21). -/
structure Profile where
  floorMode : FloorMode
  maxOpen : Nat
  speakLimit : Nat
  limitAction : LimitAction
  warnLead : Nat
  priorityMode : PriorityMode
  nomEnable : Bool
  underLevel : Nat
  regroupPolicy : RegroupPolicy
  deriving DecidableEq, Repr

/-! ## Delegate lines and seats (chapter 3) -/

/-- The line states of R33. -/
inductive LineState where
  | down
  | addressing
  | verifying
  | running
  | fault
  deriving DecidableEq, Repr

/-- The fault record of R33. -/
inductive FaultRecord where
  | none
  | chainOpen
  | chainBreak (address : Nat)
  deriving DecidableEq, Repr

/-- The line record of R33, with the poll position that R41 implies. -/
structure Line where
  state : LineState
  fault : FaultRecord
  unitCount : Nat
  position : Nat
  verifyRound : Nat
  verify : Bool
  badCrc : Nat
  audioDrop : Nat
  /-- Holder of each uplink slot; absent when free (R49). -/
  slots : Vector (Option SeatId) 8
  /-- The address whose reply window is open while the line is VERIFYING or RUNNING (R41). -/
  poll : Nat
  deriving DecidableEq, Repr

/-- The unit kinds of R40. -/
inductive UnitKind where
  | delegate
  | chair
  deriving DecidableEq, Repr

/-- The link states of R40. -/
inductive LinkState where
  | unused
  | online
  | lost
  deriving DecidableEq, Repr

/-- The floor states of R40, R57. -/
inductive FloorState where
  | idle
  | waiting
  | opened
  deriving DecidableEq, Repr

/-- The light states of R48. -/
inductive Light where
  | off
  | request
  | opened
  | warning
  | blocked
  deriving DecidableEq, Repr

/-- The phases of a speaking timer (R82). -/
inductive Phase where
  | untimed
  | running
  | warned
  | overrun
  deriving DecidableEq, Repr

/-- The speaking timer of R82, in seconds. -/
structure Timer where
  limit : Nat
  elapsed : Nat
  phase : Phase
  deriving DecidableEq, Repr

/-- A row of the seat table (R40), with the speaker setting of R47 and the speaking timer of R82. -/
structure Seat where
  segment : Option Seg
  /-- Steps, −12 to +24; negative is a boost (R53). -/
  trim : Int
  mask : Bool
  kind : UnitKind
  link : LinkState
  missed : Nat
  /-- The recorded priority key is HELD. -/
  keyHeld : Bool
  floor : FloorState
  slot : Option SlotNo
  requestStamp : Option Nat
  grantStamp : Option Nat
  light : Light
  /-- The downlink feed the loudspeaker plays; absent when MUTED (R47). -/
  speaker : Option Seg
  timer : Option Timer
  deriving DecidableEq, Repr

/-- What a downlink seat command carries (R46). -/
inductive SeatOrder where
  | micOn (slot : SlotNo)
  | micOff
  | light (state : Light)
  /-- The feed, or MUTED when absent. -/
  | speaker (feed : Option Seg)
  deriving DecidableEq, Repr

/-- A downlink seat command as it goes out on a line: the address and the order (R46). -/
structure SeatCommand where
  address : Nat
  order : SeatOrder
  deriving DecidableEq, Repr

/-! ## Group records (chapters 4, 7, 9) -/

/-- A session (R57). -/
inductive Session where
  | closed
  | opened
  deriving DecidableEq, Repr

/-- A level in steps of attenuation, or MUTE (R116, R147). -/
inductive Level where
  | steps (n : Nat)
  | mute
  deriving DecidableEq, Repr

/-- The stored parts of a group record: floor (R57), language list (R114, the floor slot first and not listed) and fader (R147).
Membership, effective parameters and chair authority are derived. The entry of a segment that is no anchor is `Group.empty`. -/
structure Group where
  session : Session
  waiting : List SeatId
  openSet : List SeatId
  hold : Nat
  langs : List Lang
  fader : Level
  deriving DecidableEq, Repr

/-! ## Interpretation (chapters 6 and 7) -/

/-- The roles of a booth output (R92, R101). -/
inductive Role where
  | active
  | standby
  | unrouted
  deriving DecidableEq, Repr

/-- The interlock modes of R92. -/
inductive Interlock where
  | lockout
  | takeover
  deriving DecidableEq, Repr

/-- The feed statuses of R93, R105. -/
inductive FeedStatus where
  | floor
  | relay
  | relayFallback
  deriving DecidableEq, Repr

/-- The desk record of R93. Its state is LIVE when the booth's `live` names it. -/
structure Desk where
  selected : Output
  /-- The relay source: a booth, or FLOOR when absent. -/
  relay : Option BoothId
  feed : FeedStatus
  deriving DecidableEq, Repr

/-- The booth record of R92, with the booth stream of the present frame (R94). -/
structure Booth where
  home : Option Seg
  langA : Option Lang
  langB : Option Lang
  mode : Interlock
  online : Bool
  roleA : Role
  roleB : Role
  live : Option DeskNo
  run : Nat
  lostFrames : Nat
  badCrc : Nat
  stream : Sample
  desks : Vector Desk 3
  deriving DecidableEq, Repr

/-- A language slot, named by its group's anchor and its language (R114, R116). -/
structure SlotName where
  group : Seg
  language : Lang
  deriving DecidableEq, Repr

/-- What a channel carries (R116, R124). -/
inductive Content where
  | silent
  | floor
  | booth (b : BoothId)
  | under
  deriving DecidableEq, Repr

/-- A channel table entry (R116) with its booth input (R147). It is FREE when it has no owner. -/
structure Channel where
  owner : Option SlotName
  level : Level
  content : Content
  boothInput : Option BoothId
  deriving DecidableEq, Repr

/-! ## Mix Engine (chapter 9) -/

/-- A gain point: linear gains on the scale where 32 768 is unity (R147). -/
structure GainPoint where
  target : Nat
  applied : Nat
  deriving DecidableEq, Repr

/-- What the latest frame sent out (R97, R148, R161). -/
structure FrameOut where
  /-- The 32 channels of the distribution output. -/
  channels : Vector Sample 32
  /-- The eight downlink feeds, the same on every line. -/
  feeds : Vector Sample 8
  /-- The desk feeds: desk b.d is entry 3b + d. -/
  desks : Vector Sample 36
  /-- The downstream booth frames, twelve bytes each (section 11.4). -/
  booths : Vector (List Byte) 12
  deriving DecidableEq, Repr

/-! ## Port Unit (chapters 10 and 11) -/

/-- The frame states of R164, R165. -/
inductive FrameState where
  | idle
  | receiving
  | responding
  deriving DecidableEq, Repr

/-- The notice categories, in the order of R181. -/
inductive Category where
  | floor
  | time
  | topology
  | interp
  | channel
  | line
  | mix
  | port
  deriving DecidableEq, Repr

/-- The notice kinds of section 11.3, in code order. -/
inductive NoticeKind where
  | wallFault
  | wallChanged
  | topologyPending
  | topologyHeld
  | topologyInStep
  | groupsChanged
  | paramsChanged
  | sessionOpened
  | sessionClosed
  | requestAdded
  | requestWithdrawn
  | requestDropped
  | listFull
  | listCleared
  | seatGranted
  | seatClosed
  | seatPreempted
  | chairNoSlot
  | priorityMuteOn
  | priorityMuteOff
  | priorityCancel
  | stampExhausted
  | stampRestarted
  | timeWarning
  | timeExpired
  | timeExtended
  | lineReady
  | lineFault
  | lineCancelled
  | verifyFail
  | seatOnline
  | seatLost
  | boothOffline
  | boothOnline
  | deskLive
  | deskOff
  | deskForcedOff
  | deskRefused
  | boothRolesChanged
  | relayLoop
  | deskFeed
  | languageAdded
  | languageRemoved
  | languageDropped
  | channelAllocated
  | channelWait
  | channelReleased
  | channelSource
  | clockLost
  | clockRestored
  | mixClip
  | authorityChanged
  | portAbsent
  | portPresent
  | portFence
  deriving DecidableEq, Repr

/-- The subject of a notice (section 11.1). -/
inductive Subject where
  | none
  | seat (i : SeatId)
  | booth (b : BoothId)
  | desk (b : BoothId) (d : DeskNo)
  | channel (c : ChanId)
  | wall (w : WallId)
  | line (l : LineId)
  | port (p : PortId)
  deriving DecidableEq, Repr

/-- A notice record (section 11.1). The value is coded as section 11.3 gives. -/
structure Notice where
  kind : NoticeKind
  group : Option Seg
  subject : Subject
  value : Option Nat
  deriving DecidableEq, Repr

/-- An entry of a time snapshot (R89): the remaining time is absent for an UNTIMED speaker. -/
structure SnapshotEntry where
  seat : SeatId
  elapsed : Nat
  remaining : Option Nat
  deriving DecidableEq, Repr

/-- A time snapshot (R89). -/
structure Snapshot where
  anchor : Seg
  entries : List SnapshotEntry
  returned : Nat
  deriving DecidableEq, Repr

/-- The tables of R173. -/
inductive RecordTable where
  | seats
  | groups
  | booths
  | channels
  | walls
  deriving DecidableEq, Repr

/-- A record cursor (R164, R173). -/
structure Cursor where
  table : RecordTable
  index : Nat
  deriving DecidableEq, Repr

/-- The port context of R164. Sets of segments and of categories hold one bit per member (R181, section 11.3). -/
structure Port where
  frame : FrameState
  /-- PRESENT. -/
  present : Bool
  /-- Presence timeout in seconds; 0 is off. -/
  timeout : Nat
  /-- Presence timer: milliseconds left; absent when STOPPED. -/
  timer : Option Nat
  fenced : Bool
  subscription : BitVec 8
  load : ProfileId
  queue : List Notice
  overflow : Nat
  snapshot : Option Snapshot
  cursor : Option Cursor
  changes : BitVec 8
  shortFrames : Nat
  /-- The bytes of the frame that have been stored in the transaction in progress (R165). -/
  stored : List Byte
  /-- What is left to be shifted out of the response, which is result code, length and fields (R165, section 11.4). -/
  response : List Byte
  /-- The byte last shifted out in the transaction in progress; absent before the first (R165). -/
  dataOut : Option Byte
  deriving DecidableEq, Repr

/-! ## The whole part -/

/-- The state of the LJ-8432. -/
structure State where
  walls : Vector Wall 10
  applied : Topology
  proposed : Topology
  regroup : Regroup
  profiles : Vector Profile 3
  select : Vector ProfileId 8
  lines : Vector Line 4
  seats : Vector Seat 256
  /-- The seat commands sent on each line since hard reset, oldest first (R46). -/
  downlink : Vector (List SeatCommand) 4
  /-- Group records by anchor. -/
  groups : Vector Group 8
  /-- The request stamp counter: the next stamp to be issued (R60). -/
  stamp : Nat
  booths : Vector Booth 12
  channels : Vector Channel 32
  /-- The channel wait queue, head first (R117). -/
  waitQueue : List SlotName
  /-- The clock state is CLOCKED (R147). -/
  clocked : Bool
  gains : Vector GainPoint 168
  floorBus : Vector Sample 8
  clips : Vector Nat 76
  /-- What the latest frame sent; absent while nothing is carried (R149). -/
  frameOut : Option FrameOut
  ports : Vector Port 4
  supervisor : PortId
  interpPort : PortId
  homePort : Vector PortId 8
  /-- The commands that are waiting, first in, first out. -/
  pending : List Instr
  /-- The bytes that partners clock in on a port, waiting to be clocked, first in, first out (R165; log entry 45). -/
  clocks : List (PortId × Byte)
  deriving DecidableEq, Repr

/-- No step of this part stops the machine: R166 answers a command that may not act with a result code, and R42 and R98 discard
damaged messages. So there is no fault to raise. -/
inductive Fault where
  deriving DecidableEq, Repr

/-- The reasons to refuse a step. -/
inductive Refusal where
  /-- Raised only by an arm of Dispatch.lean whose row has no meaning yet (safe: the step stops). No arm raises it. -/
  | notModelled (mnemonic : String)
  deriving DecidableEq, Repr

/-! ## Hard reset -/

/-- The defaults of R19. -/
def Profile.reset : Profile :=
  { floorMode := .queue, maxOpen := 4, speakLimit := 0, limitAction := .warn, warnLead := 30,
    priorityMode := .muteWhileHeld, nomEnable := true, underLevel := 24, regroupPolicy := .armed }

/-- The reset values of R1 for a wall neither of whose contacts is made (log entry 1: R18 forms the resolved state from the
contacts as they stand, and State.reset takes them as not made). -/
def Wall.reset : Wall :=
  { openContact := false, closedContact := false, ends := none, settle := 4, override := .follow,
    resolved := .moving, status := .stopped, stable := 0, effective := .closed }

/-- The reset values of R33. -/
def Line.reset : Line :=
  { state := .down, fault := .none, unitCount := 0, position := 0, verifyRound := 0, verify := false,
    badCrc := 0, audioDrop := 0, slots := Vector.replicate 8 none, poll := 1 }

/-- The reset values of R40. -/
def Seat.reset : Seat :=
  { segment := none, trim := 0, mask := false, kind := .delegate, link := .unused, missed := 0, keyHeld := false,
    floor := .idle, slot := none, requestStamp := none, grantStamp := none, light := .off, speaker := none,
    timer := none }

/-- The record of a group after hard reset (R57, R128, R147), and the entry of a segment that is no anchor. -/
def Group.empty : Group :=
  { session := .closed, waiting := [], openSet := [], hold := 0, langs := [], fader := .steps 0 }

/-- The reset values of R93. -/
def Desk.reset : Desk := { selected := .a, relay := none, feed := .floor }

/-- The reset values of R92. -/
def Booth.reset : Booth :=
  { home := none, langA := none, langB := none, mode := .lockout, online := false, roleA := .unrouted,
    roleB := .unrouted, live := none, run := 0, lostFrames := 0, badCrc := 0, stream := 0,
    desks := Vector.replicate 3 Desk.reset }

/-- A FREE channel (R116), with no booth input (R147). -/
def Channel.free : Channel := { owner := none, level := .steps 0, content := .silent, boothInput := none }

/-- The third column of R164. -/
def Port.reset : Port :=
  { frame := .idle, present := true, timeout := 0, timer := none, fenced := false, subscription := 0xFF,
    load := .default, queue := [], overflow := 0, snapshot := none, cursor := none, changes := 0,
    shortFrames := 0, stored := [], response := [], dataOut := none }

/-- R152: after hard reset the 36 desk floor points (96–131) have target 32 768 and every other target is 0; R147: every
applied gain is 0. -/
def resetGain (p : PointId) : GainPoint :=
  { target := if 96 ≤ p.val ∧ p.val < 132 then 32768 else 0, applied := 0 }

/-- The part right after hard reset (R18, R19, R20, R23, R56, R57, R60, R113, R128, R147, R177). -/
def State.reset : State :=
  { walls := Vector.replicate 10 Wall.reset
    applied := Vector.tabulate id
    proposed := Vector.tabulate id
    regroup := .inStep
    profiles := Vector.replicate 3 Profile.reset
    select := Vector.replicate 8 .default
    lines := Vector.replicate 4 Line.reset
    seats := Vector.replicate 256 Seat.reset
    downlink := Vector.replicate 4 []
    groups := Vector.replicate 8 Group.empty
    stamp := 1
    booths := Vector.replicate 12 Booth.reset
    channels := Vector.replicate 32 Channel.free
    waitQueue := []
    clocked := false
    gains := Vector.tabulate resetGain
    floorBus := Vector.replicate 8 0
    clips := Vector.replicate 76 0
    frameOut := none
    ports := Vector.replicate 4 Port.reset
    supervisor := 0
    interpPort := 0
    homePort := Vector.replicate 8 0
    pending := []
    clocks := [] }

end Sys2Proof.Machine
end

