-- ==== Sys2Proof/Machine/Operands.lean ====
section
/-! DEFINITION. The wire: parameter bytes into values, values into response bytes, the check of R42, and the codes of sections 11.2
to 11.4. -/

namespace Sys2Proof.Machine

/-! ## Parameters (R181) -/

/-- Two parameter bytes, high byte first (R181). -/
def u16 (hi lo : Byte) : Nat := hi.toNat * 256 + lo.toNat

/-- A flag: 0 is off, 1 is on, any other value is none (R181). -/
def flag? (b : Byte) : Option Bool := if b = 0 then some false else if b = 1 then some true else none

/-- The choice with code `n`, counted from 0 in the listed order (R181). -/
def choice? {α : Type} (choices : List α) (n : Nat) : Option α := choices[n]?

/-- A segment, or NONE for 255 (R181); neither for 8–254. -/
def segmentOrNone? (b : Byte) : Option (Option Seg) := if b = 255 then some none else (item? 8 b.toNat).map some

/-- A booth output language: 1–63, or none for 255 (R109, R181). -/
def outputLang? (b : Byte) : Option (Option Lang) :=
  if b = 255 then some none else if b = 0 then none else (item? 64 b.toNat).map some

/-- A relay source: a booth, or FLOOR for 255 (R111, R181). -/
def relaySource? (b : Byte) : Option (Option BoothId) := if b = 255 then some none else (item? 12 b.toNat).map some

/-- A fader or a channel level: MUTE for 255, and a number above 191 is clamped to 191 (R126, R162, R181). -/
def levelOf (b : Byte) : Level := if b = 255 then .mute else .steps (min b.toNat 191)

/-- A trim: one signed byte, clamped to −12 … +24 (R53, R181). -/
def trimOf (b : Byte) : Int := max (-12) (min 24 b.toInt)

/-- A settle time in half seconds, clamped to 1 … 16 (R8). -/
def settleOf (b : Byte) : Nat := max 1 (min 16 b.toNat)

def overrides : List Override := [.follow, .forceOpen, .forceClosed]
def profileIds : List ProfileId := [.default, .set1, .set2]
def floorModes : List FloorMode := [.override, .queue, .chair]
def limitActions : List LimitAction := [.close, .warn]
def priorityModes : List PriorityMode := [.muteWhileHeld, .cancelAll]
def regroupPolicies : List RegroupPolicy := [.auto, .armed]
def interlocks : List Interlock := [.lockout, .takeover]
def recordTables : List RecordTable := [.seats, .groups, .booths, .channels, .walls]

/-- The collections of READ_FLOOR (R81). -/
inductive Collection where
  | waiting
  | opened
  deriving DecidableEq, Repr

def collections : List Collection := [.waiting, .opened]

/-- The nine profile fields, in the order of R19. -/
inductive Field where
  | floorMode
  | maxOpen
  | speakLimit
  | limitAction
  | warnLead
  | priorityMode
  | nomEnable
  | underLevel
  | regroupPolicy
  deriving DecidableEq, Repr

def fields : List Field :=
  [.floorMode, .maxOpen, .speakLimit, .limitAction, .warnLead, .priorityMode, .nomEnable, .underLevel, .regroupPolicy]

/-- The clamp of speak_limit (R24). -/
def clampSpeakLimit (n : Nat) : Nat := if n = 0 then 0 else max 10 (min 3600 n)

/-- The record with one field written: a choice by its code, a number clamped (R24); none where the value names no choice. -/
def Profile.write (r : Profile) (f : Field) (n : Nat) : Option Profile :=
  match f with
  | .floorMode => (choice? floorModes n).map fun v => { r with floorMode := v }
  | .maxOpen => some { r with maxOpen := max 1 (min 8 n) }
  | .speakLimit => some { r with speakLimit := clampSpeakLimit n }
  | .limitAction => (choice? limitActions n).map fun v => { r with limitAction := v }
  | .warnLead => some { r with warnLead := min 120 n }
  | .priorityMode => (choice? priorityModes n).map fun v => { r with priorityMode := v }
  | .nomEnable => (choice? [false, true] n).map fun v => { r with nomEnable := v }
  | .underLevel => some { r with underLevel := min 48 n }
  | .regroupPolicy => (choice? regroupPolicies n).map fun v => { r with regroupPolicy := v }

/-! ## Response fields (R181) -/

/-- A number in one byte. -/
def put8 (n : Nat) : List Byte := [BitVec.ofNat 8 n]
/-- A number in two bytes, high byte first. -/
def put16 (n : Nat) : List Byte := [BitVec.ofNat 8 (n / 256), BitVec.ofNat 8 n]
/-- A number in three bytes, high byte first. -/
def put24 (n : Nat) : List Byte := [BitVec.ofNat 8 (n / 65536), BitVec.ofNat 8 (n / 256), BitVec.ofNat 8 n]
/-- A number in four bytes, high byte first. -/
def put32 (n : Nat) : List Byte :=
  [BitVec.ofNat 8 (n / 16777216), BitVec.ofNat 8 (n / 65536), BitVec.ofNat 8 (n / 256), BitVec.ofNat 8 n]
/-- A one-byte field that may be absent, coded 255 (R181). -/
def putOpt (n : Option Nat) : List Byte := put8 (n.getD 255)
/-- A flag. -/
def putFlag (b : Bool) : List Byte := put8 (if b then 1 else 0)
/-- A level; MUTE is 255. -/
def putLevel : Level → List Byte
  | .steps n => put8 n
  | .mute => put8 255
/-- A sample: three bytes, high byte first. -/
def putSample (x : Sample) : List Byte := put24 x.toNat
/-- A trim: one signed byte. -/
def putTrim (t : Int) : List Byte := [BitVec.ofInt 8 t]
/-- A stamp: four bytes, or the free code of an absent stamp. -/
def putStamp : Option Nat → List Byte
  | some n => put32 n
  | none => put32 Config.absentStampCode.toNat

def Override.code : Override → Nat
  | .follow => 0
  | .forceOpen => 1
  | .forceClosed => 2

def Resolved.code : Resolved → Nat
  | .opened => 0
  | .closed => 1
  | .moving => 2
  | .fault => 3

def SettleStatus.code : SettleStatus → Nat
  | .settling => 0
  | .settled => 1
  | .stopped => 2

/-- The code of R1's order, in a WALLS record. -/
def WallPos.code : WallPos → Nat
  | .opened => 0
  | .closed => 1

/-- The code of section 11.3, in WALL_CHANGED. -/
def WallPos.noticeCode : WallPos → Nat
  | .closed => 0
  | .opened => 1

def Regroup.code : Regroup → Nat
  | .inStep => 0
  | .pending => 1
  | .held => 2

def ProfileId.code : ProfileId → Nat
  | .default => 0
  | .set1 => 1
  | .set2 => 2

/-- The number of a profile record. -/
def ProfileId.number : ProfileId → Fin 3
  | .default => 0
  | .set1 => 1
  | .set2 => 2

def FloorMode.code : FloorMode → Nat
  | .override => 0
  | .queue => 1
  | .chair => 2

def LimitAction.code : LimitAction → Nat
  | .close => 0
  | .warn => 1

def PriorityMode.code : PriorityMode → Nat
  | .muteWhileHeld => 0
  | .cancelAll => 1

def RegroupPolicy.code : RegroupPolicy → Nat
  | .auto => 0
  | .armed => 1

def LineState.code : LineState → Nat
  | .down => 0
  | .addressing => 1
  | .verifying => 2
  | .running => 3
  | .fault => 4

/-- NONE and CHAIN_OPEN by R33's order; CHAIN_BREAK with its address has a free code. -/
def FaultRecord.byte : FaultRecord → Byte
  | .none => 0
  | .chainOpen => 1
  | .chainBreak a => Config.chainBreakCode a

def UnitKind.code : UnitKind → Nat
  | .delegate => 0
  | .chair => 1

/-- The code of section 11.3, in SEAT_ONLINE. -/
def UnitKind.noticeCode : UnitKind → Nat
  | .delegate => 1
  | .chair => 2

def LinkState.code : LinkState → Nat
  | .unused => 0
  | .online => 1
  | .lost => 2

def FloorState.code : FloorState → Nat
  | .idle => 0
  | .waiting => 1
  | .opened => 2

def Light.code : Light → Nat
  | .off => 0
  | .request => 1
  | .opened => 2
  | .warning => 3
  | .blocked => 4

def Session.code : Session → Nat
  | .closed => 0
  | .opened => 1

def Interlock.code : Interlock → Nat
  | .lockout => 0
  | .takeover => 1

def Role.code : Role → Nat
  | .active => 0
  | .standby => 1
  | .unrouted => 2

def FeedStatus.code : FeedStatus → Nat
  | .floor => 0
  | .relay => 1
  | .relayFallback => 2

def outputCode : Output → Nat
  | .a => 0
  | .b => 1

/-- SILENT and FLOOR by R116's order; BOOTH with its number and UNDER have free codes. -/
def Content.byte : Content → Byte
  | .silent => 0
  | .floor => 1
  | .booth b => Config.contentCode (some b)
  | .under => Config.contentCode none

/-- The value of CHANNEL_SOURCE (section 11.3): high byte FLOOR 1, UNDER 2, BOOTH 3; low byte the booth. -/
def Content.noticeCode : Content → Nat
  | .silent => 0
  | .floor => 256
  | .under => 512
  | .booth b => 768 + b.val

def RecordTable.code : RecordTable → Nat
  | .seats => 0
  | .groups => 1
  | .booths => 2
  | .channels => 3
  | .walls => 4

/-! ## Result codes (section 11.4) -/

/-- The result codes of R166. -/
inductive ResultCode where
  | ok
  | accepted
  | latchHeld
  | notAuthority
  | fenced
  | badParam
  | noSuch
  | inUse
  | full
  | noSlot
  | busy
  | relayLoop
  | wrongState
  | unknownCommand
  deriving DecidableEq, Repr

def ResultCode.code : ResultCode → Nat
  | .ok => 0
  | .accepted => 1
  | .latchHeld => 2
  | .notAuthority => 3
  | .fenced => 4
  | .badParam => 5
  | .noSuch => 6
  | .inUse => 7
  | .full => 8
  | .noSlot => 9
  | .busy => 10
  | .relayLoop => 11
  | .wrongState => 12
  | .unknownCommand => 13

/-- A response: result code, length, fields (section 11.4). -/
def responseBytes (c : ResultCode) (data : List Byte) : List Byte := put8 c.code ++ put8 data.length ++ data

/-! ## Causes (section 11.3) -/

/-- The causes of SEAT_CLOSED (R64). -/
inductive CloseCause where
  | key
  | command
  | lost
  | session
  | priority
  | override
  | limit
  | regroup
  deriving DecidableEq, Repr

def CloseCause.code : CloseCause → Nat
  | .key => 0
  | .command => 1
  | .lost => 2
  | .session => 3
  | .priority => 4
  | .override => 5
  | .limit => 6
  | .regroup => 7

/-- The causes of REQUEST_WITHDRAWN (R65). -/
inductive WithdrawCause where
  | key
  | command
  | lost
  deriving DecidableEq, Repr

def WithdrawCause.code : WithdrawCause → Nat
  | .key => 0
  | .command => 1
  | .lost => 2

/-- The causes of DESK_FORCED_OFF (R112). -/
inductive ForceCause where
  | offline
  | takeover
  | select
  | role
  | binding
  deriving DecidableEq, Repr

def ForceCause.code : ForceCause → Nat
  | .offline => 0
  | .takeover => 1
  | .select => 2
  | .role => 3
  | .binding => 4

/-! ## Notices (sections 11.3, 11.4) -/

def Category.bit : Category → Nat
  | .floor => 0
  | .time => 1
  | .topology => 2
  | .interp => 3
  | .channel => 4
  | .line => 5
  | .mix => 6
  | .port => 7

/-- The code of a notice kind (section 11.3). -/
def NoticeKind.code : NoticeKind → Nat
  | .wallFault => 1
  | .wallChanged => 2
  | .topologyPending => 3
  | .topologyHeld => 4
  | .topologyInStep => 5
  | .groupsChanged => 6
  | .paramsChanged => 16
  | .sessionOpened => 17
  | .sessionClosed => 18
  | .requestAdded => 19
  | .requestWithdrawn => 20
  | .requestDropped => 21
  | .listFull => 22
  | .listCleared => 23
  | .seatGranted => 24
  | .seatClosed => 25
  | .seatPreempted => 26
  | .chairNoSlot => 27
  | .priorityMuteOn => 28
  | .priorityMuteOff => 29
  | .priorityCancel => 30
  | .stampExhausted => 31
  | .stampRestarted => 32
  | .timeWarning => 40
  | .timeExpired => 41
  | .timeExtended => 42
  | .lineReady => 48
  | .lineFault => 49
  | .lineCancelled => 50
  | .verifyFail => 51
  | .seatOnline => 52
  | .seatLost => 53
  | .boothOffline => 64
  | .boothOnline => 65
  | .deskLive => 66
  | .deskOff => 67
  | .deskForcedOff => 68
  | .deskRefused => 69
  | .boothRolesChanged => 70
  | .relayLoop => 71
  | .deskFeed => 72
  | .languageAdded => 80
  | .languageRemoved => 81
  | .languageDropped => 82
  | .channelAllocated => 83
  | .channelWait => 84
  | .channelReleased => 85
  | .channelSource => 86
  | .clockLost => 96
  | .clockRestored => 97
  | .mixClip => 98
  | .authorityChanged => 112
  | .portAbsent => 113
  | .portPresent => 114
  | .portFence => 115

/-- The category of a notice kind (section 11.3). -/
def NoticeKind.category (k : NoticeKind) : Category :=
  if k.code ≤ 6 then .topology
  else if k.code ≤ 32 then .floor
  else if k.code ≤ 42 then .time
  else if k.code ≤ 53 then .line
  else if k.code ≤ 72 then .interp
  else if k.code ≤ 86 then .channel
  else if k.code ≤ 98 then .mix
  else .port

/-- Subject type and number of a notice record (section 11.4). DESIGN CHOICE: without a subject the number is 0 (log entry 47). -/
def Subject.codes : Subject → Nat × Nat
  | .none => (0, 0)
  | .seat i => (1, i.val)
  | .booth b => (2, b.val)
  | .desk b d => (3, 3 * b.val + d.val)
  | .channel c => (4, c.val)
  | .wall w => (5, w.val)
  | .line l => (6, l.val)
  | .port p => (7, p.val)

/-- The eight bytes of a notice record (section 11.4). DESIGN CHOICE: bits 1 to 7 of byte 1 are 0 (log entry 47). -/
def Notice.bytes (n : Notice) : List Byte :=
  put8 n.kind.code ++ putFlag n.value.isSome ++ putOpt (n.group.map Fin.val) ++ put8 n.subject.codes.1 ++
    put16 n.subject.codes.2 ++ put16 (n.value.getD 0)

/-! ## The CRC-16 of R42 -/

/-- One message bit into the check register. -/
def crcBit (reg : BitVec 16) (bit : Bool) : BitVec 16 :=
  if reg.msb != bit then (reg <<< 1) ^^^ 4129#16 else reg <<< 1

/-- One message byte, from its most significant bit. -/
def crcByte (reg : BitVec 16) (b : Byte) : BitVec 16 :=
  [7, 6, 5, 4, 3, 2, 1, 0].foldl (fun r k => crcBit r (b.getLsbD k)) reg

/-- The check register after a message, preset to all ones. -/
def crc16 (message : List Byte) : BitVec 16 := message.foldl crcByte 65535#16

/-! ## Messages of the lines and the booth link (section 11.4) -/

/-- A seat reply that passed its check: address, unit kind where it names one, talk-press flag, priority key held. -/
structure SeatReply where
  address : Nat
  kind : Option UnitKind
  talk : Bool
  key : Bool
  deriving DecidableEq, Repr

/-- The unit kind of a seat reply: DELEGATE 1, CHAIR 2 (section 11.4). -/
def replyKind? (b : Byte) : Option UnitKind := if b = 1 then some .delegate else if b = 2 then some .chair else none

/-- The fields of a seat reply (section 11.4). -/
def seatReplyOf (reply : List Byte) : Option SeatReply :=
  match reply with
  | [a, k, f, _, _] => some { address := a.toNat, kind := replyKind? k, talk := f.getLsbD 0, key := f.getLsbD 1 }
  | _ => none

/-- What a desk event asks for (R98). -/
inductive DeskAction where
  | micKey
  | outputSelect (o : Output)
  | relaySelect (source : Option BoothId)
  deriving DecidableEq, Repr

/-- The action of a desk event, where kind and argument pass the field check of R98 (section 11.4). -/
def deskAction? (kind argument : Byte) : Option DeskAction :=
  if kind = 1 then (if argument = 0 then some .micKey else none)
  else if kind = 2 then (choice? [Output.a, Output.b] argument.toNat).map .outputSelect
  else if kind = 3 then (relaySource? argument).map .relaySelect
  else none

/-- Checks 2 and 3 of R98 on the bytes of a desk event that arrived in the slot of `booth`: the desk and the action. -/
def deskEventOf (booth : BoothId) (event : List Byte) : Option (DeskNo × DeskAction) :=
  match event with
  | [b, d, k, x, _, _] =>
    if b.toNat = booth.val then
      match item? 3 d.toNat, deskAction? k x with
      | some desk, some action => some (desk, action)
      | _, _ => none
    else none
  | _ => none

/-- An upstream booth frame: the source desk, absent for none, and the sample (section 11.4). -/
structure UpFrame where
  source : Option DeskNo
  sample : Sample
  deriving DecidableEq, Repr

/-- The valid frame in the slot of `booth`, if one is complete in it and carries the slot's booth number (R94). -/
def upFrameOf (booth : BoothId) (frame : List Byte) : Option UpFrame :=
  match frame with
  | [b, d, x, y, z] =>
    if b.toNat = booth.val then
      some { source := item? 3 d.toNat, sample := BitVec.ofNat 24 (x.toNat * 65536 + y.toNat * 256 + z.toNat) }
    else none
  | _ => none

end Sys2Proof.Machine
end

