-- ==== Sys2Proof/Machine/Flags.lean ====
section
/-! DEFINITION. What is read off the state and not stored: membership, effective parameters, room, priority mute, slot states,
roles, live outputs, authorities, the proposed grouping. Nothing here changes the state. -/

namespace Sys2Proof.Machine

/-! ## Numbers -/

def allSegs : List Seg := List.finRange 8
def allWalls : List WallId := List.finRange 10
def allLines : List LineId := List.finRange 4
def allSeats : List SeatId := List.finRange 256
def allSlots : List SlotNo := List.finRange 8
def allBooths : List BoothId := List.finRange 12
def allDesks : List DeskNo := List.finRange 3
def allChannels : List ChanId := List.finRange 32
def allPorts : List PortId := List.finRange 4

/-- The line of a seat (R40). -/
def lineOf (i : SeatId) : LineId := ⟨i.val / 64, by omega⟩

/-- The address of a seat on its line, 1–64 (R40). -/
def addressOf (i : SeatId) : Nat := i.val % 64 + 1

/-- The seat at an address of a line (R40). -/
def seatAt (l : LineId) (address : Nat) : SeatId := ⟨l.val * 64 + (address - 1) % 64, by omega⟩

/-- The seats of a line, in ascending address. -/
def seatsOf (l : LineId) : List SeatId := allSeats.filter fun i => lineOf i == l

/-- The set of segments for which `p` holds, one bit each (section 11.3). -/
def segSet (p : Seg → Bool) : BitVec 8 :=
  allSegs.foldl (fun m x => if p x then m ||| BitVec.twoPow 8 x.val else m) 0

/-- A counter described as 16-bit saturates ("Conventions" of 00_scope.md). -/
def bump (n : Nat) : Nat := min (n + 1) Config.counterTop

/-! ## Entries of the state -/

namespace State

def wall (s : State) (w : WallId) : Wall := s.walls.entry w
def line (s : State) (l : LineId) : Line := s.lines.entry l
def seat (s : State) (i : SeatId) : Seat := s.seats.entry i
def group (s : State) (g : Seg) : Group := s.groups.entry g
def booth (s : State) (b : BoothId) : Booth := s.booths.entry b
def channel (s : State) (c : ChanId) : Channel := s.channels.entry c
def port (s : State) (p : PortId) : Port := s.ports.entry p
def gain (s : State) (p : PointId) : GainPoint := s.gains.entry p
def profile (s : State) (p : ProfileId) : Profile := s.profiles.entry p.number

end State

/-! ## Groupings (R10, R11) -/

namespace Topology

/-- The segment names a group of the grouping. -/
def isAnchor (t : Topology) (g : Seg) : Bool := t.entry g == g

/-- The anchors of a grouping, ascending. -/
def anchors (t : Topology) : List Seg := allSegs.filter t.isAnchor

/-- The members of a group, ascending. -/
def members (t : Topology) (g : Seg) : List Seg := allSegs.filter fun x => t.entry x == g

/-- The set of anchors (section 11.3). -/
def anchorSet (t : Topology) : BitVec 8 := segSet t.isAnchor

/-- Each segment a group by itself (R18). -/
def single : Topology := Vector.tabulate id

/-- The grouping with the groups of two segments joined under the lower anchor. -/
def join (t : Topology) (x y : Seg) : Topology :=
  let a := t.entry x
  let b := t.entry y
  t.mapEntries fun _ z => if z = a ∨ z = b then min a b else z

/-- The pieces of R129: each segment's piece, named by its lowest segment. -/
def pieces (old new : Topology) : Topology :=
  Vector.tabulate fun x =>
    (allSegs.find? fun y => old.entry y == old.entry x && new.entry y == new.entry x).getD x

end Topology

namespace State

/-- The ends of the walls of the effective set: assigned and effective OPEN (R10). -/
def effectiveSet (s : State) : List (Seg × Seg) :=
  allWalls.filterMap fun w => if (s.wall w).effective = .opened then (s.wall w).ends else none

/-- The grouping that the effective set gives now (R10). -/
def formProposed (s : State) : Topology :=
  s.effectiveSet.foldl (fun t e => t.join e.1 e.2) Topology.single

/-- An affected group: its member set differs in the proposed topology (section 1.8). -/
def affected (s : State) (g : Seg) : Bool :=
  s.applied.isAnchor g && allSegs.any fun x => (s.applied.entry x == g) != (s.proposed.entry x == g)

/-- The group of the applied topology that contains a seat's segment (R40). -/
def groupOf (s : State) (i : SeatId) : Option Seg := (s.seat i).segment.map s.applied.entry

/-! ## Effective parameters (R21) -/

/-- The profile selected by a segment (R20). -/
def selected (s : State) (x : Seg) : Profile := s.profile (s.select.entry x)

/-- The effective parameters of a group: max_open is the smallest over the members, every other field is the anchor's (R21). -/
def params (s : State) (g : Seg) : Profile :=
  { s.selected g with
    maxOpen := (s.applied.members g).foldl (fun m x => min m (s.selected x).maxOpen) (s.selected g).maxOpen }

/-- A group is held open: affected, session OPEN and regroup_policy ARMED (section 1.8). -/
def heldOpen (s : State) (g : Seg) : Bool :=
  s.affected g && (s.group g).session == .opened && (s.params g).regroupPolicy == .armed

/-! ## The floor (R57 to R63, R76) -/

def isDelegate (s : State) (i : SeatId) : Bool := (s.seat i).kind == .delegate

/-- The OPEN delegates of a group, in ascending grant stamp. -/
def openDelegates (s : State) (g : Seg) : List SeatId := (s.group g).openSet.filter s.isDelegate

/-- A group has room when its OPEN delegates number fewer than its effective max_open (R59). -/
def hasRoom (s : State) (g : Seg) : Bool := decide ((s.openDelegates g).length < (s.params g).maxOpen)

/-- A group is under priority mute (R76). -/
def muted (s : State) (g : Seg) : Bool := (s.params g).priorityMode == .muteWhileHeld && decide (0 < (s.group g).hold)

/-- The lowest-numbered free slot of a line (R49). -/
def freeSlot (s : State) (l : LineId) : Option SlotNo := allSlots.find? fun k => ((s.line l).slots.entry k).isNone

/-- No stamp can be issued (R61). -/
def exhausted (s : State) : Bool := decide (Config.lastStamp ≤ s.stamp)

/-- Of the seats listed, the first with the lowest request stamp. -/
def lowestStamp (s : State) (is : List SeatId) : Option SeatId :=
  is.foldl
    (fun best i =>
      match best with
      | none => some i
      | some j => if (s.seat i).requestStamp.getD 0 < (s.seat j).requestStamp.getD 0 then some i else some j)
    none

/-- Of the seats listed, the first with the highest grant stamp. -/
def highestGrant (s : State) (is : List SeatId) : Option SeatId :=
  is.foldl
    (fun best i =>
      match best with
      | none => some i
      | some j => if (s.seat j).grantStamp.getD 0 < (s.seat i).grantStamp.getD 0 then some i else some j)
    none

/-- A WAITING seat of the line that the slot arbiter may choose: session OPEN, floor_mode QUEUE, room (R51). -/
def slotClaimant (s : State) (i : SeatId) : Bool :=
  (s.seat i).floor == .waiting &&
    match s.groupOf i with
    | some g => (s.group g).session == .opened && (s.params g).floorMode == .queue && s.hasRoom g
    | none => false

/-- The choice of the slot arbiter of a line (R51); none while the counter is exhausted (R61). -/
def arbiterChoice (s : State) (l : LineId) : Option SeatId :=
  if s.exhausted then none else s.lowestStamp ((seatsOf l).filter s.slotClaimant)

/-- The speaker setting of a seat (R47): MUTED when it is OPEN or has no segment, else the feed of its group. -/
def speakerOf (s : State) (i : SeatId) : Option Seg := if (s.seat i).floor = .opened then none else s.groupOf i

/-- Commands reach a seat that is ONLINE on a line that is VERIFYING or RUNNING (R46). -/
def reachable (s : State) (i : SeatId) : Bool :=
  (s.seat i).link == .online && ((s.line (lineOf i)).state == .verifying || (s.line (lineOf i)).state == .running)

/-- A seat of some group is WAITING or OPEN (R61). -/
def floorInUse (s : State) : Bool := allSeats.any fun i => (s.seat i).floor != .idle

/-! ## Language slots (R114 to R117) -/

/-- The languages of a group's slots in list order, the floor slot first (R114). -/
def slotLangs (s : State) (g : Seg) : List Lang := 0 :: (s.group g).langs

/-- The channel that a slot holds, if any (R116). -/
def channelOf (s : State) (n : SlotName) : Option ChanId := allChannels.find? fun c => (s.channel c).owner == some n

/-- The place of a slot in the channel wait queue, from 1 (R114, R117). -/
def queuePosition (s : State) (n : SlotName) : Option Nat := (s.waitQueue.findIdx? (· == n)).map (· + 1)

/-- The lowest-numbered FREE channel (R118). -/
def freeChannel (s : State) : Option ChanId := allChannels.find? fun c => (s.channel c).owner.isNone

/-- The number of FREE channels (R127). -/
def freeChannels (s : State) : Nat := (allChannels.filter fun c => (s.channel c).owner.isNone).length

end State

/-- The state of a language slot (R114, R115). -/
inductive SlotState where
  | dormant
  | queued (position : Nat)
  | allocated (c : ChanId)
  deriving DecidableEq, Repr

/-- The state of a slot, read from the channel table and the wait queue (R115). -/
def State.slotState (s : State) (n : SlotName) : SlotState :=
  match s.channelOf n with
  | some c => .allocated c
  | none =>
    match s.queuePosition n with
    | some k => .queued k
    | none => .dormant

/-! ## Booths (R92, R101, R103, R105, R106) -/

def Booth.lang (b : Booth) : Output → Option Lang
  | .a => b.langA
  | .b => b.langB

def Booth.role (b : Booth) : Output → Role
  | .a => b.roleA
  | .b => b.roleB

def Booth.desk (b : Booth) (d : DeskNo) : Desk := b.desks.entry d

/-- The output of the booth's live desk. -/
def Booth.liveOutput (b : Booth) : Option Output := b.live.map fun d => (b.desk d).selected

namespace State

/-- The group of a booth (R92). -/
def boothGroup (s : State) (b : BoothId) : Option Seg := (s.booth b).home.map s.applied.entry

/-- An output is routed: its booth is ONLINE with a home, and it has a language (R101). Answers its group and language. -/
def routed (s : State) (b : BoothId) (o : Output) : Option (Seg × Lang) :=
  if (s.booth b).online then
    match s.boothGroup b, (s.booth b).lang o with
    | some g, some l => some (g, l)
    | _, _ => none
  else none

/-- The role that R101 gives an output. -/
def roleOf (s : State) (b : BoothId) (o : Output) : Role :=
  match s.routed b o with
  | none => .unrouted
  | some gl =>
    if allBooths.any fun c => decide (c < b) && (s.routed c .a == some gl || s.routed c .b == some gl) then .standby
    else .active

/-- The live outputs: ACTIVE outputs with their booth's live desk on them, by group, language and booth (R103). -/
def liveOutputs (s : State) : List (SlotName × BoothId) :=
  allBooths.filterMap fun b =>
    match (s.booth b).liveOutput with
    | none => none
    | some o =>
      if (s.booth b).role o = .active then
        match s.boothGroup b, (s.booth b).lang o with
        | some g, some l => some (⟨g, l⟩, b)
        | _, _ => none
      else none

end State

/-- The booth live on a group and language, among the live outputs reported (R103, R124). -/
def liveBooth (live : List (SlotName × BoothId)) (n : SlotName) : Option BoothId :=
  (live.find? fun e => e.1 == n).map Prod.snd

/-- The content of an ALLOCATED channel by its owner and the live outputs (R124). -/
def contentFor (live : List (SlotName × BoothId)) (n : SlotName) : Content :=
  if n.language = 0 then .floor
  else
    match liveBooth live n with
    | some b => .booth b
    | none => .under

namespace State

/-- The relay graph has an edge from booth `b` to booth `r` when any desk of `b` relays `r` (R104). -/
def relayEdge (s : State) (b r : BoothId) : Bool := allDesks.any fun d => ((s.booth b).desk d).relay == some r

/-- The booths reached from those of `from` in at most `n` edges. -/
def relayReach (s : State) : Nat → List BoothId → List BoothId
  | 0, seen => seen
  | n + 1, seen => relayReach s n (allBooths.filter fun y => seen.contains y || seen.any fun x => s.relayEdge x y)

/-- A path leads in the relay graph from `r` to `b` (R104). Twelve edges reach every booth that can be reached. -/
def relayPath (s : State) (r b : BoothId) : Bool := (s.relayReach 12 [r]).contains b

/-- The feed status that R105 derives for a desk. -/
def feedOf (s : State) (b : BoothId) (d : DeskNo) : FeedStatus :=
  match ((s.booth b).desk d).relay with
  | none => .floor
  | some r =>
    if (s.booth r).online && (s.boothGroup b).isSome && s.boothGroup r == s.boothGroup b then .relay else .relayFallback

/-- The booth whose stream a desk hears; absent when it hears the floor (R106). -/
def relayHeard (s : State) (b : BoothId) (d : DeskNo) : Option BoothId :=
  let k := (s.booth b).desk d
  match k.feed, k.relay with
  | .relay, some r => if (s.booth r).live.isSome then some r else none
  | _, _ => none

/-! ## Authority (R168, R170) -/

/-- A port qualifies when it is PRESENT and its fence is off (R168). -/
def qualifies (s : State) (p : PortId) : Bool := (s.port p).present && !(s.port p).fenced

/-- The chair authority of a group: the home port of the first member whose home port qualifies, else the supervisor (R168). -/
def chairAuth (s : State) (g : Seg) : PortId :=
  match (s.applied.members g).find? fun x => s.qualifies (s.homePort.entry x) with
  | some x => s.homePort.entry x
  | none => s.supervisor

/-- The interpretation authority (R168). -/
def interpAuth (s : State) : PortId := if s.qualifies s.interpPort then s.interpPort else s.supervisor

end State

/-- The attention output of a port (R170). -/
def Port.attention (p : Port) : Bool := !p.queue.isEmpty

/-! ## Speaking time (R82) -/

/-- The remaining time of a timer: absent when UNTIMED, else limit less elapsed, not below 0 (R82). -/
def Timer.remaining (t : Timer) : Option Nat := if t.phase = .untimed then none else some (t.limit - t.elapsed)

end Sys2Proof.Machine
end

