-- ==== Sys2Proof/Machine/Ops.lean ====
section
/-! DEFINITION. The shared operations: changes to one entry, posting notices, sending seat commands, taking stamps, authority,
the frame of a command. -/

namespace Sys2Proof.Machine

namespace State

/-! ## One entry changed -/

def setWall (s : State) (w : WallId) (f : Wall → Wall) : State := { s with walls := s.walls.alter w f }
def setLine (s : State) (l : LineId) (f : Line → Line) : State := { s with lines := s.lines.alter l f }
def setSeat (s : State) (i : SeatId) (f : Seat → Seat) : State := { s with seats := s.seats.alter i f }
def setGroup (s : State) (g : Seg) (f : Group → Group) : State := { s with groups := s.groups.alter g f }
def setBooth (s : State) (b : BoothId) (f : Booth → Booth) : State := { s with booths := s.booths.alter b f }
def setChannel (s : State) (c : ChanId) (f : Channel → Channel) : State := { s with channels := s.channels.alter c f }
def setPort (s : State) (p : PortId) (f : Port → Port) : State := { s with ports := s.ports.alter p f }
def setProfile (s : State) (p : ProfileId) (r : Profile) : State := { s with profiles := s.profiles.put p.number r }

def setDesk (s : State) (b : BoothId) (d : DeskNo) (f : Desk → Desk) : State :=
  s.setBooth b fun r => { r with desks := r.desks.alter d f }

end State

/-! ## Notices (R178) -/

/-- A notice offered to one port: queued, or counted as overflow; a queue that was empty asserts attention, which starts the
presence timer of a PRESENT port with a timeout (R170, R178). -/
def Port.offer (n : Notice) (p : Port) : Port :=
  if p.subscription.getLsbD n.kind.category.bit then
    if p.queue.length < Config.queueCap then
      { p with
        queue := p.queue ++ [n]
        timer := if p.queue.isEmpty && p.present && p.timeout != 0 then some (p.timeout * Config.second) else p.timer }
    else { p with overflow := min (p.overflow + 1) 255 }
  else p

namespace State

/-- A notice offered to the ports for which `who` holds. -/
def postTo (s : State) (who : PortId → Bool) (n : Notice) : State :=
  { s with ports := s.ports.mapEntries fun p r => if who p then r.offer n else r }

/-- The part posts a notice: it is offered to every port (R178). -/
def post (s : State) (kind : NoticeKind) (group : Option Seg) (subject : Subject) (value : Option Nat) : State :=
  s.postTo (fun _ => true) ⟨kind, group, subject, value⟩

/-- A group's change flag is set for every port (R174). -/
def flagChange (s : State) (g : Seg) : State :=
  { s with ports := s.ports.mapEntries fun _ r => { r with changes := r.changes ||| BitVec.twoPow 8 g.val } }

/-! ## Downlink (R46, R47) -/

/-- A seat command goes out, where the seat can be reached (R46). -/
def send (s : State) (i : SeatId) (o : SeatOrder) : State :=
  if s.reachable i then { s with downlink := s.downlink.alter (lineOf i) (· ++ [⟨addressOf i, o⟩]) } else s

/-- The light state is recorded and sent (R46, R48). -/
def setLight (s : State) (i : SeatId) (l : Light) : State :=
  (s.setSeat i fun q => { q with light := l }).send i (.light l)

/-- The speaker setting of R47 is recorded and sent. -/
def sendSpeaker (s : State) (i : SeatId) : State :=
  (s.setSeat i fun q => { q with speaker := s.speakerOf i }).send i (.speaker (s.speakerOf i))

/-- The speaker setting is formed again, and SPEAKER is sent if it changed (R47; log entry 21). -/
def reformSpeaker (s : State) (i : SeatId) : State :=
  if (s.seat i).speaker = s.speakerOf i then s else s.sendSpeaker i

/-! ## Stamps (R60, R61) -/

/-- The stamp counter advances by 1; reaching the last value posts STAMP_EXHAUSTED at that moment (R60, R61; log entry 13). -/
def takeStamp (s : State) : State :=
  let t := { s with stamp := s.stamp + 1 }
  if t.stamp = Config.lastStamp then t.post .stampExhausted none .none none else t

/-- The exhaustion ends when an event completes after which no seat is WAITING or OPEN (R61). -/
def restartStamps (s : State) : State :=
  if s.exhausted && !s.floorInUse then ({ s with stamp := 1 }).post .stampRestarted none .none none else s

/-! ## Authority (R169) -/

/-- The old and the new port are told of a change of authority (R169). -/
def postAuthority (s : State) (group : Option Seg) (old new : PortId) : State :=
  s.postTo (fun p => p == old || p == new) ⟨.authorityChanged, group, .port new, some old.val⟩

/-- The authorities are derived again: AUTHORITY_CHANGED for each group whose chair authority differs from `chair`, in
ascending anchor, then for the interpretation authority (R169). -/
def announceAuthority (chair : Seg → PortId) (interp : PortId) (s : State) : State :=
  let t := s.applied.anchors.foldl
    (fun t g =>
      if s.chairAuth g = chair g then t else (t.postAuthority (some g) (chair g) (s.chairAuth g)).flagChange g)
    s
  if s.interpAuth = interp then t else t.postAuthority none interp s.interpAuth

/-- An event that may move authority, followed by the recomputation of R169. -/
def withAuthority (s : State) (event : State → State) : State :=
  announceAuthority s.chairAuth s.interpAuth (event s)

/-! ## Presence (R170) -/

/-- An ABSENT port becomes PRESENT: PORT_PRESENT to the other three ports, the authorities derived again, and the timer started
where notices wait (R170). -/
def returnToPresence (s : State) (p : PortId) : State :=
  if (s.port p).present then s
  else
    s.withAuthority fun s =>
      (s.setPort p fun r =>
        { r with
          present := true
          timer := if r.attention && r.timeout != 0 then some (r.timeout * Config.second) else none }).postTo
        (fun q => q != p) ⟨.portPresent, none, .port p, none⟩

/-! ## The frame of a command (R165, R166) -/

/-- The result code and the response fields stand ready to be shifted out (R165). -/
def respond (s : State) (p : PortId) (c : ResultCode) (data : List Byte) : State :=
  s.setPort p fun r => { r with frame := .responding, response := responseBytes c data }

end State

/-- What a command that acts leaves: the state, its result code and its response fields. -/
structure Done where
  state : State
  code : ResultCode := .ok
  data : List Byte := []

/-- A command's own checks in order, each refusing with its code, then its effect (R166). -/
abbrev Rule := Except ResultCode Done

/-- A check that refuses with `c` where `b` holds. -/
def refuseIf (b : Bool) (c : ResultCode) : Except ResultCode Unit := if b then .error c else .ok ()

/-- A value that must be there, refusing with `c` where it is not. -/
def need {α : Type} (o : Option α) (c : ResultCode) : Except ResultCode α :=
  match o with
  | some x => .ok x
  | none => .error c

/-- The response of a command by its own rule: a refusal changes no state (R166). -/
def State.answer (s : State) (p : PortId) (r : Rule) : State :=
  match r with
  | .ok d => d.state.respond p d.code d.data
  | .error c => s.respond p c []

/-- A command is taken: its last byte completes a frame in RECEIVING, an ABSENT port returns to presence, and the command's own
rule judges it (R165, R166). Bytes in another frame state give no command (log entry 2); the row
stands for all bytes of its frame (log entry 3). -/
def State.take (s : State) (p : PortId) (rule : State → Rule) : State :=
  if (s.port p).frame = .receiving then
    let t := s.returnToPresence p
    t.answer p (rule t)
  else s

namespace State

/-- The fence check, the first of every command that changes state outside its port's own context (R166, R172). -/
def notFenced (s : State) (p : PortId) : Except ResultCode Unit := refuseIf (s.port p).fenced .fenced

/-- The supervisor check. -/
def isSupervisor (s : State) (p : PortId) : Except ResultCode Unit := refuseIf (s.supervisor != p) .notAuthority

/-- The check of the interpretation authority (R168). -/
def hasInterp (s : State) (p : PortId) : Except ResultCode Unit := refuseIf (s.interpAuth != p) .notAuthority

/-- The check of a group's chair authority (R168). -/
def hasChair (s : State) (p : PortId) (g : Seg) : Except ResultCode Unit := refuseIf (s.chairAuth g != p) .notAuthority

/-- A group named by a segment number: BAD_PARAM above 7, NO_SUCH for a segment that is no anchor (R11). -/
def namedGroup (s : State) (n : Nat) : Except ResultCode Seg := do
  let g ← need (item? 8 n) .badParam
  refuseIf (!s.applied.isAnchor g) .noSuch
  return g

end State

/-- A meaning of this model always ends in a next state: the part answers a command that may not act with a result code. -/
abbrev Result := Host.Outcome State Fault Refusal

end Sys2Proof.Machine
end

