-- ==== Sys2Proof/Machine/Gain.lean ====
section
/-! DEFINITION. Gain points: the totals and targets of R152 to R154, the linear gains of R155, the ramp of R156. -/

namespace Sys2Proof.Machine

/-! ## Linear gains (R155) -/

/-- The table M of R155. -/
def gainTable : List Nat :=
  [32768, 30929, 29193, 27554, 26008, 24548, 23170, 21870, 20643, 19484, 18390, 17358]

/-- A total attenuation in steps as a linear gain (R155). -/
def linearGain (total : Int) : Nat :=
  if total > 191 then 0
  else
    let t := max (-12) total
    if 0 ≤ t then gainTable.getD (t.toNat % 12) 0 >>> (t.toNat / 12)
    else 2 * gainTable.getD (t + 12).toNat 0

/-- The NOM table of R153. -/
def nomTable : List Nat := [0, 6, 10, 12, 14, 16, 17, 18, 19, 20, 21, 22, 22, 23, 24, 24]

/-- The attenuation for `n` open microphones (R153). -/
def nomSteps (n : Nat) : Nat := if n = 0 then 0 else if 16 ≤ n then 24 else nomTable.getD (n - 1) 0

/-! ## Point numbers (R152) -/

/-- The mic point of uplink slot `k` of line `l`. -/
def micPoint (l : LineId) (k : SlotNo) : PointId := ⟨l.val * 8 + k.val, by omega⟩
def channelBoothPoint (c : ChanId) : PointId := ⟨32 + c.val, by omega⟩
def channelFloorPoint (c : ChanId) : PointId := ⟨64 + c.val, by omega⟩
def deskFloorPoint (b : BoothId) (d : DeskNo) : PointId := ⟨96 + 3 * b.val + d.val, by omega⟩
def deskRelayPoint (b : BoothId) (d : DeskNo) : PointId := ⟨132 + 3 * b.val + d.val, by omega⟩

/-- What a gain point scales (R152). -/
inductive PointKind where
  | mic (l : LineId) (k : SlotNo)
  | channelBooth (c : ChanId)
  | channelFloor (c : ChanId)
  | deskFloor (b : BoothId) (d : DeskNo)
  | deskRelay (b : BoothId) (d : DeskNo)
  deriving DecidableEq, Repr

/-- The kind of a gain point by its number (R152). -/
def pointKind (p : PointId) : PointKind :=
  if h : p.val < 32 then .mic ⟨p.val / 8, by omega⟩ ⟨p.val % 8, by omega⟩
  else if h : p.val < 64 then .channelBooth ⟨p.val - 32, by omega⟩
  else if h : p.val < 96 then .channelFloor ⟨p.val - 64, by omega⟩
  else if h : p.val < 132 then .deskFloor ⟨(p.val - 96) / 3, by omega⟩ ⟨(p.val - 96) % 3, by omega⟩
  else .deskRelay ⟨(p.val - 132) / 3, by omega⟩ ⟨(p.val - 132) % 3, by omega⟩

namespace State

/-! ## Targets (R152 to R154) -/

/-- The number of OPEN seats of a group, delegates and chairs, that are not under priority mute (R153). -/
def openMics (s : State) (g : Seg) : Nat :=
  ((s.group g).openSet.filter fun i => !(s.muted g && s.isDelegate i)).length

/-- The NOM attenuation of a group (R153). -/
def nomAttenuation (s : State) (g : Seg) : Nat := if (s.params g).nomEnable then nomSteps (s.openMics g) else 0

/-- The target of the mic point of an uplink slot (R153). -/
def micTarget (s : State) (l : LineId) (k : SlotNo) : Nat :=
  match (s.line l).slots.entry k with
  | none => 0
  | some i =>
    if (s.seat i).floor = .opened then
      match s.groupOf i with
      | none => 0
      | some g =>
        if s.isDelegate i && s.muted g then 0
        else
          match (s.group g).fader with
          | .mute => 0
          | .steps f => linearGain (f + (s.seat i).trim + s.nomAttenuation g)
    else 0

/-- The target of a channel's booth point (R124, R154). -/
def channelBoothTarget (s : State) (c : ChanId) : Nat :=
  match (s.channel c).content, (s.channel c).level with
  | .booth _, .steps n => linearGain n
  | _, _ => 0

/-- The target of a channel's floor point (R124, R154). -/
def channelFloorTarget (s : State) (c : ChanId) : Nat :=
  match (s.channel c).content, (s.channel c).level, (s.channel c).owner with
  | .floor, .steps n, _ => linearGain n
  | .under, .steps n, some o => linearGain (n + (s.params o.group).underLevel)
  | _, _, _ => 0

/-- The target that the owners' state gives a gain point (R152). -/
def targetOf (s : State) (p : PointId) : Nat :=
  match pointKind p with
  | .mic l k => s.micTarget l k
  | .channelBooth c => s.channelBoothTarget c
  | .channelFloor c => s.channelFloorTarget c
  | .deskFloor b d => if (s.relayHeard b d).isSome then 0 else linearGain 0
  | .deskRelay b d => if (s.relayHeard b d).isSome then linearGain 0 else 0

/-- Every target is formed again from the owners' state; the applied gains stay (R152). -/
def retarget (s : State) : State :=
  { s with gains := s.gains.mapEntries fun p g => { g with target := s.targetOf p } }

/-- The end of an event: an exhaustion that is over ends (R61), and the targets are formed again within the event (R152). -/
def finish (s : State) : State := s.restartStamps.retarget

/-- The applied gain of one point set to 0 at once (R154). -/
def clearApplied (s : State) (p : PointId) : State :=
  { s with gains := s.gains.alter p fun g => { g with applied := 0 } }

/-- Every applied gain set to 0 (R150). -/
def clearAllApplied (s : State) : State :=
  { s with gains := s.gains.mapEntries fun _ g => { g with applied := 0 } }

end State

/-! ## The ramp (R156) -/

/-- An applied gain moves toward its target by their difference or 1024, whichever is smaller (R156). -/
def GainPoint.ramp (g : GainPoint) : GainPoint :=
  if g.applied ≤ g.target then { g with applied := g.applied + min (g.target - g.applied) 1024 }
  else { g with applied := g.applied - min (g.applied - g.target) 1024 }

/-- The ramp step of a frame (R148, R156). -/
def State.rampAll (s : State) : State := { s with gains := s.gains.mapEntries fun _ g => g.ramp }

end Sys2Proof.Machine
end

