-- ==== Sys2Proof/Machine/Allocator.lean ====
section
/-! DEFINITION. The Channel Allocator: serving a need, releasing a channel, deciding contents (R116 to R125). `live` is the list of
live outputs as the Booth Link Controller last reported them (R103). -/

namespace Sys2Proof.Machine

/-- The booth of a content BOOTH b. -/
def Content.boothOf : Content → Option BoothId
  | .booth b => some b
  | _ => none

namespace State

/-- Both applied gains of a channel become 0 at once (R154). -/
def silenceChannel (s : State) (c : ChanId) : State :=
  (s.clearApplied (channelBoothPoint c)).clearApplied (channelFloorPoint c)

/-- A channel goes to a slot: level 0, content decided, booth input from the content, applied gains 0; CHANNEL_ALLOCATED
(R116, R118, R119, R154). -/
def allocate (live : List (SlotName × BoothId)) (s : State) (c : ChanId) (n : SlotName) : State :=
  let k := contentFor live n
  ((s.setChannel c fun _ => { owner := some n, level := .steps 0, content := k, boothInput := k.boothOf }).silenceChannel c).post
    .channelAllocated (some n.group) (.channel c) (some n.language.val)

/-- A slot that needs a channel takes the lowest FREE one, or joins the tail of the wait queue (R118). -/
def serve (live : List (SlotName × BoothId)) (s : State) (n : SlotName) : State :=
  match s.freeChannel with
  | some c => s.allocate live c n
  | none =>
    ({ s with waitQueue := s.waitQueue ++ [n] }).post .channelWait (some n.group) .none (some n.language.val)

/-- A channel is released by group `g` and language `l`: CHANNEL_RELEASED, then the hand-off to the head of the queue, or FREE
(R119). -/
def release (live : List (SlotName × BoothId)) (s : State) (c : ChanId) (g : Seg) (l : Lang) : State :=
  let t := (s.setChannel c fun r => { r with owner := none }).post .channelReleased (some g) (.channel c) (some l.val)
  match t.waitQueue with
  | n :: rest => ({ t with waitQueue := rest }).allocate live c n
  | [] => (t.setChannel c fun _ => Channel.free).silenceChannel c

/-- The content of an ALLOCATED channel is decided again; CHANNEL_SOURCE where it changes. The booth input takes booth b whenever
the content becomes BOOTH b, and keeps its booth otherwise (R125, R154). -/
def redecide (live : List (SlotName × BoothId)) (s : State) (c : ChanId) : State :=
  match (s.channel c).owner with
  | none => s
  | some n =>
    let k := contentFor live n
    if (s.channel c).content = k then s
    else
      (s.setChannel c fun r =>
        { r with content := k, boothInput := if k.boothOf.isSome then k.boothOf else r.boothInput }).post
        .channelSource (some n.group) (.channel c) (some k.noticeCode)

/-- The content of every ALLOCATED channel is decided again, in ascending channel number (R142). -/
def redecideAll (s : State) : State := allChannels.foldl (redecide s.liveOutputs) s

/-- The report of R103: the channels whose group and language gained, lost or changed a live output since `before` are decided
again, in ascending channel number (R125). -/
def reportLive (before : List (SlotName × BoothId)) (s : State) : State :=
  allChannels.foldl
    (fun t c =>
      match (t.channel c).owner with
      | none => t
      | some n => if liveBooth before n = liveBooth s.liveOutputs n then t else t.redecide s.liveOutputs c)
    s

/-- The opening of a session: every slot of the group is served in list order, floor first (R120). -/
def openSlots (s : State) (g : Seg) : State :=
  (s.slotLangs g).foldl (fun t l => t.serve s.liveOutputs ⟨g, l⟩) s

/-- The queued slots of a group leave the wait queue (R120, first pass). -/
def unqueueGroup (s : State) (g : Seg) : State := { s with waitQueue := s.waitQueue.filter fun n => n.group != g }

/-- The closing of a session: queued slots leave the queue, then allocated slots release in list order (R120). -/
def closeSlots (s : State) (g : Seg) : State :=
  (s.slotLangs g).foldl
    (fun t l =>
      match t.channelOf ⟨g, l⟩ with
      | some c => t.release s.liveOutputs c g l
      | none => t)
    (s.unqueueGroup g)

end State

end Sys2Proof.Machine
end

