-- ==== Sys2Proof/Machine/Interpret.lean ====
section
/-! DEFINITION. The Booth Link Controller: roles, live desks, feeds and relays (R95 to R105). -/

namespace Sys2Proof.Machine

namespace State

/-- A booth event, followed by the report of the live outputs it added or removed (R103). -/
def withReport (s : State) (event : State → State) : State := reportLive s.liveOutputs (event s)

/-- A notice with a desk as subject and the anchor of its booth's group (R92, R112). -/
def postDesk (s : State) (kind : NoticeKind) (b : BoothId) (d : DeskNo) (value : Option Nat) : State :=
  s.post kind (s.boothGroup b) (.desk b d) value

/-- The live desk of a booth, if it has one, becomes OFF with DESK_FORCED_OFF and its cause (R112). -/
def forceOff (s : State) (b : BoothId) (cause : ForceCause) : State :=
  match (s.booth b).live with
  | none => s
  | some d => (s.setBooth b fun r => { r with live := none }).postDesk .deskForcedOff b d (some cause.code)

/-- A desk's feed status is derived again; DESK_FEED where it changes (R105). -/
def deriveFeed (s : State) (b : BoothId) (d : DeskNo) : State :=
  if ((s.booth b).desk d).feed = s.feedOf b d then s
  else (s.setDesk b d fun k => { k with feed := s.feedOf b d }).postDesk .deskFeed b d (some (s.feedOf b d).code)

/-- The feed status of every desk is derived again, in ascending booth and desk (R105). -/
def deriveFeeds (s : State) : State :=
  allBooths.foldl (fun t b => allDesks.foldl (fun t d => t.deriveFeed b d) t) s

/-- Step 1 of R102: every output takes the role R101 gives. -/
def takeRoles (s : State) : State :=
  { s with booths := s.booths.mapEntries fun b r => { r with roleA := s.roleOf b .a, roleB := s.roleOf b .b } }

/-- Step 2 of R102 for one booth: a live desk on an output that is no longer ACTIVE is forced OFF. -/
def dropInactive (s : State) (b : BoothId) : State :=
  match (s.booth b).liveOutput with
  | none => s
  | some o => if (s.booth b).role o = .active then s else s.forceOff b .role

/-- Step 3 of R102 for one booth: BOOTH_ROLES_CHANGED where its roles differ from `old`. -/
def postRoles (old : State) (s : State) (b : BoothId) : State :=
  if (old.booth b).roleA = (s.booth b).roleA ∧ (old.booth b).roleB = (s.booth b).roleB then s
  else
    s.post .boothRolesChanged (s.boothGroup b) (.booth b)
      (some ((s.booth b).roleA.code * 256 + (s.booth b).roleB.code))

/-- Steps 1 to 4 of R102. The report of step 5 is the caller's (R103, R142). -/
def recomputeRoles (s : State) : State :=
  (allBooths.foldl (postRoles s) (allBooths.foldl dropInactive s.takeRoles)).deriveFeeds

/-- The booth goes OFFLINE (R95). -/
def goOffline (s : State) (b : BoothId) : State :=
  s.withReport fun s =>
    (((s.setBooth b fun r => { r with online := false, run := 0 }).post .boothOffline (s.boothGroup b) (.booth b) none).forceOff
      b .offline).recomputeRoles

/-- The booth comes online (R96). -/
def goOnline (s : State) (b : BoothId) : State :=
  s.withReport fun s =>
    ((s.setBooth b fun r => { r with online := true, run := 0 }).post .boothOnline (s.boothGroup b) (.booth b) none).recomputeRoles

/-- The desk becomes LIVE, with DESK_LIVE and its selected output (R99, R100). -/
def goLive (s : State) (b : BoothId) (d : DeskNo) : State :=
  (s.setBooth b fun r => { r with live := some d }).postDesk .deskLive b d (some (outputCode ((s.booth b).desk d).selected))

/-- The code of DESK_REFUSED (section 11.3). -/
def refusedCode : Role → Nat
  | .active => 0
  | .standby => 1
  | .unrouted => 2

/-- The code of LOCKOUT in DESK_REFUSED (section 11.3). -/
def lockoutCode : Nat := 3

/-- A MIC_KEY event that is taken (R99). -/
def pressMicKey (s : State) (b : BoothId) (d : DeskNo) : State :=
  let r := s.booth b
  if r.live = some d then
    s.withReport fun s => (s.setBooth b fun r => { r with live := none }).postDesk .deskOff b d none
  else
    match r.role (r.desk d).selected with
    | .active =>
      if r.live.isSome ∧ r.mode = .lockout then s.postDesk .deskRefused b d (some lockoutCode)
      else s.withReport fun s => (s.forceOff b .takeover).goLive b d
    | role => s.postDesk .deskRefused b d (some (refusedCode role))

/-- An OUTPUT_SELECT event that is taken (R100). -/
def selectOutput (s : State) (b : BoothId) (d : DeskNo) (o : Output) : State :=
  if ((s.booth b).desk d).selected = o then s
  else
    s.withReport fun s =>
      let t := s.setDesk b d fun k => { k with selected := o }
      if (t.booth b).live = some d then
        if (t.booth b).role o = .active then t.postDesk .deskLive b d (some (outputCode o)) else t.forceOff b .select
      else t

/-- A relay selection closes a loop: the desk's own booth, or a booth from which a path leads to it (R104). -/
def relayLoops (s : State) (b : BoothId) (source : Option BoothId) : Bool :=
  match source with
  | none => false
  | some r => r == b || s.relayPath r b

/-- An accepted relay selection: the source is stored and the desk's feed status derived again (R104, R105). -/
def selectRelay (s : State) (b : BoothId) (d : DeskNo) (source : Option BoothId) : State :=
  if ((s.booth b).desk d).relay = source then s
  else (s.setDesk b d fun k => { k with relay := source }).deriveFeed b d

/-- A RELAY_SELECT event that is taken (R104). -/
def pressRelay (s : State) (b : BoothId) (d : DeskNo) (source : Option BoothId) : State :=
  if s.relayLoops b source then s.postDesk .relayLoop b d (source.map Fin.val) else s.selectRelay b d source

end State

end Sys2Proof.Machine
end

