-- ==== Sys2Proof/Machine/Booths.lean ====
section
/-! DEFINITION. The Booth Link Controller's frames, desk events and commands (chapter 6). -/

namespace Sys2Proof.Machine

/-! ## Booth frames (R94 to R96) -/

namespace State

/-- The sample of a valid frame is heard where its source desk is the booth's live desk; else the stream is silence (R94). -/
def heardSample (s : State) (b : BoothId) (f : UpFrame) : Sample :=
  if (s.booth b).live.isSome ∧ f.source = (s.booth b).live then f.sample else 0

/-- A missing frame of an ONLINE booth while the word clock runs: silence, counted; a run of 4800 takes the booth OFFLINE (R94, R95). -/
def countMissing (s : State) (b : BoothId) : State :=
  let t := s.setBooth b fun r => { r with stream := 0, lostFrames := bump r.lostFrames, run := r.run + 1 }
  if (s.booth b).run + 1 < Config.offlineRun then t else (t.goOffline b).finish

/-- A frame time without a valid frame in the slot of an ONLINE booth (R94). While UNCLOCKED no frame time passes: the run and the
lost-frame counter are held (R94, R149; log entry 38). -/
def missFrame (s : State) (b : BoothId) : State :=
  if s.clocked then s.countMissing b else s.setBooth b fun r => { r with stream := 0 }

/-- A frame time of a booth (R94, R96). The stream formed stands until the booth's next row, and the mix takes it as it stands (log
entry 37). A valid frame is taken in either clock state (log entry 38). -/
def takeFrame (s : State) (b : BoothId) (f : Option UpFrame) : State :=
  match (s.booth b).online, f with
  | true, some f => s.setBooth b fun r => { r with run := 0, stream := s.heardSample b f }
  | true, none => s.missFrame b
  | false, some _ => ((s.setBooth b fun r => { r with stream := 0 }).goOnline b).finish
  | false, none => s.setBooth b fun r => { r with stream := 0 }

end State

/-- BOOTH_FRAME (R94). -/
def execBoothFrame (b : BoothId) (frame : List Byte) (s : State) : Result := .next (s.takeFrame b (upFrameOf b frame))

/-- BOOTH_OFFLINE (R95): the 4800th missing frame in a row, which only the CLOCKED state can bring (R149). At another time nothing happens
(log entries 7, 33 and 38). -/
def execBoothOffline (b : BoothId) (s : State) : Result :=
  .next
    (if s.clocked ∧ (s.booth b).online ∧ Config.offlineRun ≤ (s.booth b).run + 1 then s.countMissing b else s)

/-! ## Desk events (R98 to R100, R104) -/

/-- MIC_KEY (R99), of an ONLINE booth (R98, check 4). -/
def execMicKey (b : BoothId) (d : DeskNo) (s : State) : Result :=
  .next (if (s.booth b).online then (s.pressMicKey b d).finish else s)

/-- OUTPUT_SELECT (R100), of an ONLINE booth. -/
def execOutputSelect (b : BoothId) (d : DeskNo) (o : Output) (s : State) : Result :=
  .next (if (s.booth b).online then (s.selectOutput b d o).finish else s)

/-- RELAY_SELECT (R104), of an ONLINE booth. -/
def execRelaySelect (b : BoothId) (d : DeskNo) (source : Option BoothId) (s : State) : Result :=
  .next (if (s.booth b).online then (s.pressRelay b d source).finish else s)

/-- The effect of a desk event that is taken. -/
def State.deskAction (s : State) (b : BoothId) (d : DeskNo) : DeskAction → State
  | .micKey => s.pressMicKey b d
  | .outputSelect o => s.selectOutput b d o
  | .relaySelect r => s.pressRelay b d r

/-- DESK_EVENT_DISCARDED (R98): the bytes of an event in the slot of a booth. A failed check is counted; an event that fails checks 2 to
4 does nothing; one that passes them all is taken (log entry 8). -/
def execDeskEventDiscarded (b : BoothId) (event : List Byte) (s : State) : Result :=
  .next <|
    if event.length = 6 then
      if crc16 event ≠ 0 then s.setBooth b fun r => { r with badCrc := bump r.badCrc }
      else
        match deskEventOf b event with
        | none => s
        | some (d, x) => if (s.booth b).online then (s.deskAction b d x).finish else s
    else s

/-! ## Booth configuration (R107 to R111) -/

/-- The roving booths (R108). -/
def roving (b : BoothId) : Bool := decide (10 ≤ b.val)

/-- The authority check of SET_BOOTH_HOME: the supervisor, and for the roving booths the interpretation authority too (R107, R108). -/
def mayRehome (s : State) (port : PortId) (b : Option BoothId) : Bool :=
  s.supervisor == port || (b.any roving && s.interpAuth == port)

/-- A new home, followed by the role recomputation (R107, R108). -/
def State.storeHome (s : State) (b : BoothId) (x : Option Seg) : State :=
  s.withReport fun s => (s.setBooth b fun r => { r with home := x }).recomputeRoles

def ruleSetBoothHome (port : PortId) (params : List Byte) (s : State) : Rule :=
  match params with
  | [b, x] => do
    s.notFenced port
    refuseIf (!mayRehome s port (item? 12 b.toNat)) .notAuthority
    let b ← need (item? 12 b.toNat) .noSuch
    let x ← need (segmentOrNone? x) .badParam
    refuseIf (!roving b && (s.booth b).live.isSome) .inUse
    if (s.booth b).home = x then return { state := s }
    return { state := (s.storeHome b x).finish }
  | _ => .error .badParam

/-- SET_BOOTH_HOME (R107, R108). -/
def execSetBoothHome (port : PortId) (params : List Byte) (s : State) : Result :=
  .next (s.take port (ruleSetBoothHome port params))

/-- Fence, interpretation authority, booth (R109 to R111). -/
def boothChecks (s : State) (port : PortId) (b : Byte) : Except ResultCode BoothId := do
  s.notFenced port
  s.hasInterp port
  need (item? 12 b.toNat) .noSuch

/-- The bindings are stored; a live desk whose output's language changes is forced OFF; the roles are recomputed (R109). -/
def State.storeOutputs (s : State) (b : BoothId) (la lb : Option Lang) : State :=
  s.withReport fun s =>
    let t := s.setBooth b fun r => { r with langA := la, langB := lb }
    let changed := match (s.booth b).liveOutput with
      | none => false
      | some o => (t.booth b).lang o != (s.booth b).lang o
    (if changed then t.forceOff b .binding else t).recomputeRoles

def ruleSetBoothOutputs (port : PortId) (params : List Byte) (s : State) : Rule :=
  match params with
  | [b, x, y] => do
    let b ← boothChecks s port b
    let la ← need (outputLang? x) .badParam
    let lb ← need (outputLang? y) .badParam
    refuseIf (la.isSome && la == lb) .badParam
    if (s.booth b).langA = la ∧ (s.booth b).langB = lb then return { state := s }
    return { state := (s.storeOutputs b la lb).finish }
  | _ => .error .badParam

/-- SET_BOOTH_OUTPUTS (R109). -/
def execSetBoothOutputs (port : PortId) (params : List Byte) (s : State) : Result :=
  .next (s.take port (ruleSetBoothOutputs port params))

def ruleSetBoothMode (port : PortId) (params : List Byte) (s : State) : Rule :=
  match params with
  | [b, m] => do
    let b ← boothChecks s port b
    let m ← need (choice? interlocks m.toNat) .badParam
    return { state := s.setBooth b fun r => { r with mode := m } }
  | _ => .error .badParam

/-- SET_BOOTH_MODE (R110). -/
def execSetBoothMode (port : PortId) (params : List Byte) (s : State) : Result :=
  .next (s.take port (ruleSetBoothMode port params))

def ruleSetDeskRelay (port : PortId) (params : List Byte) (s : State) : Rule :=
  match params with
  | [b, d, x] => do
    let b ← boothChecks s port b
    let d ← need (item? 3 d.toNat) .noSuch
    let source ← need (relaySource? x) .badParam
    refuseIf (s.relayLoops b source) .relayLoop
    let t := s.selectRelay b d source
    return { state := t.finish, data := put8 ((t.booth b).desk d).feed.code }
  | _ => .error .badParam

/-- SET_DESK_RELAY (R111). -/
def execSetDeskRelay (port : PortId) (params : List Byte) (s : State) : Result :=
  .next (s.take port (ruleSetDeskRelay port params))

/-! ## Reading a booth (R112) -/

/-- The response of READ_BOOTH_STATUS (R112). -/
def Booth.statusBytes (r : Booth) : List Byte :=
  put8 (if r.online then 1 else 0) ++ put16 r.run ++ put16 r.lostFrames ++ put16 r.badCrc

def ruleReadBoothStatus (params : List Byte) (s : State) : Rule :=
  match params with
  | [b, c] => do
    let b ← need (item? 12 b.toNat) .noSuch
    let c ← need (flag? c) .badParam
    let t := if c then s.setBooth b fun r => { r with lostFrames := 0, badCrc := 0 } else s
    return { state := t, data := (s.booth b).statusBytes }
  | _ => .error .badParam

/-- READ_BOOTH_STATUS (R112): served to every port. -/
def execReadBoothStatus (port : PortId) (params : List Byte) (s : State) : Result :=
  .next (s.take port (ruleReadBoothStatus params))

end Sys2Proof.Machine
end

