-- ==== Sys2Proof/Machine/Channels.lean ====
section
/-! DEFINITION. The Channel Allocator's commands (R121 to R127). -/

namespace Sys2Proof.Machine

/-- Fence, interpretation authority, group (R121). -/
def languageChecks (s : State) (port : PortId) (g : Byte) : Except ResultCode Seg := do
  s.notFenced port
  s.hasInterp port
  s.namedGroup g.toNat

/-- A language code 1–63 (R122, R123; log entry 35 for REMOVE_LANGUAGE above 63). -/
def language? (b : Byte) : Option Lang := if b = 0 then none else item? 64 b.toNat

/-- The code of a slot state, by R114's order. -/
def SlotState.code : SlotState → Nat
  | .dormant => 0
  | .queued _ => 1
  | .allocated _ => 2

/-- The channel or the queue position of a slot; absent when DORMANT. -/
def SlotState.place : SlotState → Option Nat
  | .dormant => none
  | .queued n => some n
  | .allocated c => some c.val

/-- State and place of a slot in a response (R122, R127). -/
def SlotState.bytes (x : SlotState) : List Byte := put8 x.code ++ putOpt x.place

namespace State

/-- A language joins the end of a group's list, and its slot is served where the session is OPEN (R122). -/
def addLanguage (s : State) (g : Seg) (l : Lang) : State :=
  let t := ((s.setGroup g fun r => { r with langs := r.langs ++ [l] }).post .languageAdded (some g) .none
    (some l.val)).flagChange g
  if (s.group g).session = .opened then t.serve t.liveOutputs ⟨g, l⟩ else t

/-- A slot that ceases to exist gives up its channel or its queue place (R123). -/
def giveUp (s : State) (n : SlotName) : State :=
  match s.slotState n with
  | .allocated c => s.release s.liveOutputs c n.group n.language
  | .queued _ => { s with waitQueue := s.waitQueue.filter (· != n) }
  | .dormant => s

/-- A language leaves a group's list (R123). -/
def removeLanguage (s : State) (g : Seg) (l : Lang) : State :=
  (((s.setGroup g fun r => { r with langs := r.langs.filter (· != l) }).post .languageRemoved (some g) .none
    (some l.val)).flagChange g).giveUp ⟨g, l⟩

end State

def ruleAddLanguage (port : PortId) (params : List Byte) (s : State) : Rule :=
  match params with
  | [g, l] => do
    let g ← languageChecks s port g
    let l ← need (language? l) .badParam
    refuseIf ((s.group g).langs.contains l) .badParam
    refuseIf (decide (Config.languageCap ≤ (s.group g).langs.length)) .full
    let t := s.addLanguage g l
    return { state := t.finish, data := put8 (t.group g).langs.length ++ (t.slotState ⟨g, l⟩).bytes }
  | _ => .error .badParam

/-- ADD_LANGUAGE (R122). -/
def execAddLanguage (port : PortId) (params : List Byte) (s : State) : Result :=
  .next (s.take port (ruleAddLanguage port params))

def ruleRemoveLanguage (port : PortId) (params : List Byte) (s : State) : Rule :=
  match params with
  | [g, l] => do
    let g ← languageChecks s port g
    let l ← need (language? l) .badParam
    refuseIf (!(s.group g).langs.contains l) .noSuch
    return { state := (s.removeLanguage g l).finish }
  | _ => .error .badParam

/-- REMOVE_LANGUAGE (R123). -/
def execRemoveLanguage (port : PortId) (params : List Byte) (s : State) : Result :=
  .next (s.take port (ruleRemoveLanguage port params))

/-- The owner of a channel in a response: anchor and language, each absent for a FREE channel (R126, R127). -/
def putOwner (n : Option SlotName) : List Byte := putOpt (n.map (·.group.val)) ++ putOpt (n.map (·.language.val))

def ruleSetChannelLevel (port : PortId) (params : List Byte) (s : State) : Rule :=
  match params with
  | [c, x] => do
    s.notFenced port
    s.hasInterp port
    let c ← need (item? 32 c.toNat) .noSuch
    refuseIf (s.channel c).owner.isNone .wrongState
    return { state := (s.setChannel c fun r => { r with level := levelOf x }).finish
             data := put8 c.val ++ putLevel (levelOf x) ++ putOwner (s.channel c).owner }
  | _ => .error .badParam

/-- SET_CHANNEL_LEVEL (R126). -/
def execSetChannelLevel (port : PortId) (params : List Byte) (s : State) : Result :=
  .next (s.take port (ruleSetChannelLevel port params))

namespace State

/-- A slot in the response of READ_LANGUAGES (R127). -/
def slotBytes (s : State) (g : Seg) (l : Lang) : List Byte := put8 l.val ++ (s.slotState ⟨g, l⟩).bytes

/-- The response of READ_LANGUAGES (R127). -/
def languageBytes (s : State) (g : Seg) (start : Nat) : List Byte :=
  put8 (s.group g).session.code ++ put8 s.waitQueue.length ++ put8 s.freeChannels ++ put8 (s.slotLangs g).length ++
    (((s.slotLangs g).drop start).take 8).flatMap (s.slotBytes g)

end State

def ruleReadLanguages (params : List Byte) (s : State) : Rule :=
  match params with
  | [g, n] => do
    let g ← s.namedGroup g.toNat
    return { state := s, data := s.languageBytes g n.toNat }
  | _ => .error .badParam

/-- READ_LANGUAGES (R127): served to every port. -/
def execReadLanguages (port : PortId) (params : List Byte) (s : State) : Result :=
  .next (s.take port (ruleReadLanguages params))

end Sys2Proof.Machine
end

