-- ==== Sys2Proof/Machine/Floor.lean ====
section
/-! DEFINITION. The Floor Controller: lists and sets, grants, closes, withdrawals, returns, drops, the slot arbiter, promotion, the
priority key and talk presses (R25, R51, R57 to R77), and the speaking timers (R82 to R87). -/

namespace Sys2Proof.Machine

namespace State

/-! ## Lists in stamp order (R58, R59) -/

/-- A seat put at the place its request stamp gives in a list of ascending request stamps (R58). -/
def insertRequest (s : State) (i : SeatId) : List SeatId → List SeatId
  | [] => [i]
  | j :: rest =>
    if (s.seat i).requestStamp.getD 0 < (s.seat j).requestStamp.getD 0 then i :: j :: rest
    else j :: s.insertRequest i rest

/-- A seat put at the place its grant stamp gives in a list of ascending grant stamps (R59). -/
def insertGrant (s : State) (i : SeatId) : List SeatId → List SeatId
  | [] => [i]
  | j :: rest =>
    if (s.seat i).grantStamp.getD 0 < (s.seat j).grantStamp.getD 0 then i :: j :: rest else j :: s.insertGrant i rest

/-- Two lists merged in ascending request stamp (R135). -/
def mergeRequests (s : State) (xs ys : List SeatId) : List SeatId := ys.foldl (fun zs i => s.insertRequest i zs) xs

/-- Two sets merged in ascending grant stamp (R136). -/
def mergeGrants (s : State) (xs ys : List SeatId) : List SeatId := ys.foldl (fun zs i => s.insertGrant i zs) xs

/-! ## Slots (R49) -/

/-- The Line Controller frees the slot a seat holds, and the row's slot is removed (R49, R64). -/
def freeSeatSlot (s : State) (i : SeatId) : State :=
  match (s.seat i).slot with
  | none => s
  | some k =>
    (s.setLine (lineOf i) fun r => { r with slots := r.slots.put k none }).setSeat i fun q => { q with slot := none }

/-! ## The grant (R62) -/

/-- The timer that a grant starts (R82). -/
def newTimer (limit : Nat) : Timer := { limit := limit, elapsed := 0, phase := if limit = 0 then .untimed else .running }

/-- A seat of group `g` becomes OPEN with slot `k` of its line (R62). The Mix Engine's targets follow at the end of the event. -/
def grant (s : State) (g : Seg) (i : SeatId) (k : SlotNo) : State :=
  let t := (s.takeStamp.setGroup g fun r =>
    { r with waiting := r.waiting.filter (· != i), openSet := r.openSet ++ [i] }).setSeat i fun q =>
      { q with floor := .opened, grantStamp := some s.stamp }
  let t := (t.setLine (lineOf i) fun r => { r with slots := r.slots.put k (some i) }).setSeat i fun q =>
    { q with slot := some k }
  let t := ((t.send i (.micOn k)).setLight i .opened).sendSpeaker i
  let t := if t.isDelegate i then t.setSeat i fun q => { q with timer := some (newTimer (t.params g).speakLimit) } else t
  t.post .seatGranted (some g) (.seat i) (some k.val)

/-! ## The slot arbiter (R51) -/

/-- A slot of a line is offered to the line's arbiter: granted to its choice, or left free (R51). -/
def offerSlot (s : State) (l : LineId) (k : SlotNo) : State :=
  match s.arbiterChoice l with
  | none => s
  | some i =>
    match s.groupOf i with
    | none => s
    | some g => s.grant g i k

/-! ## Promotion (R63) -/

/-- The waiting seat of lowest request stamp whose line has a free slot, with the lowest free slot of that line (R63, R78). -/
def nextGrant (s : State) (g : Seg) : Option (SeatId × SlotNo) :=
  (s.group g).waiting.findSome? fun i => (s.freeSlot (lineOf i)).map fun k => (i, k)

/-- The group may be served by a promotion pass: session OPEN, QUEUE, room, a stamp to issue (R61, R63). -/
def promotable (s : State) (g : Seg) : Bool :=
  (s.group g).session == .opened && (s.params g).floorMode == .queue && s.hasRoom g && !s.exhausted

/-- At most `n` steps of a promotion pass. -/
def promoteSteps (g : Seg) : Nat → State → State
  | 0, s => s
  | n + 1, s =>
    if s.promotable g then
      match s.nextGrant g with
      | none => s
      | some (i, k) => promoteSteps g n (s.grant g i k)
    else s

/-- A promotion pass on a group (R63). Each step takes a seat from the waiting list, so its length bounds the steps. -/
def promote (s : State) (g : Seg) : State := promoteSteps g (s.group g).waiting.length s

/-! ## The close (R64) -/

/-- Steps 1 to 5 of a close (R64). -/
def closeCore (s : State) (g : Seg) (i : SeatId) (cause : CloseCause) : State :=
  let t := ((s.setGroup g fun r => { r with openSet := r.openSet.filter (· != i) }).setSeat i fun q =>
    { q with floor := .idle, requestStamp := none, grantStamp := none }).freeSeatSlot i
  let t := ((t.send i .micOff).setLight i .off).sendSpeaker i
  (t.setSeat i fun q => { q with timer := none }).post .seatClosed (some g) (.seat i) (some cause.code)

/-- A freed slot, if there was one, is offered to the arbiter of the seat's line (R64, R25). -/
def offerFreed (s : State) (i : SeatId) (k : Option SlotNo) : State :=
  match k with
  | none => s
  | some k => s.offerSlot (lineOf i) k

/-- A close, whole: steps 1 to 5, the freed slot, and the promotion pass that follows the close of a delegate (R64). -/
def close (s : State) (g : Seg) (i : SeatId) (cause : CloseCause) : State :=
  let t := (s.closeCore g i cause).offerFreed i (s.seat i).slot
  if s.isDelegate i then t.promote g else t

/-! ## Withdrawal, return, drop (R25, R58, R65) -/

/-- A WAITING seat leaves its list and becomes IDLE (R65), with no notice. -/
def withdrawQuiet (s : State) (g : Seg) (i : SeatId) : State :=
  ((s.setGroup g fun r => { r with waiting := r.waiting.filter (· != i) }).setSeat i fun q =>
    { q with floor := .idle, requestStamp := none }).setLight i .off

/-- A single withdrawal, with REQUEST_WITHDRAWN (R65). -/
def withdraw (s : State) (g : Seg) (i : SeatId) (cause : WithdrawCause) : State :=
  (s.withdrawQuiet g i).post .requestWithdrawn (some g) (.seat i) (some cause.code)

/-- Every seat of the waiting list is withdrawn, in ascending request stamp (R65). -/
def withdrawAll (s : State) (g : Seg) : State := (s.group g).waiting.foldl (fun t i => t.withdrawQuiet g i) s

/-- The return of an OPEN delegate to its waiting list: steps 1 to 4 of R25. -/
def returnSeat (s : State) (g : Seg) (i : SeatId) : State :=
  let t := ((s.setGroup g fun r => { r with openSet := r.openSet.filter (· != i) }).freeSeatSlot i).setSeat i fun q =>
    { q with floor := .waiting, grantStamp := none, timer := none }
  let t := t.setGroup g fun r => { r with waiting := t.insertRequest i r.waiting }
  (((t.send i .micOff).setLight i .request).sendSpeaker i).post .seatPreempted (some g) (.seat i) none

/-- A WAITING seat is dropped: IDLE, no request stamp, LIGHT OFF, REQUEST_DROPPED (R58). -/
def drop (s : State) (g : Seg) (i : SeatId) : State :=
  (s.withdrawQuiet g i).post .requestDropped (some g) (.seat i) none

/-- The entries of a list above the cap, the highest request stamp first (R58). -/
def overCap (xs : List SeatId) : List SeatId := (xs.drop Config.waitingCap).reverse

/-- The 48-entry cap applied to a group's waiting list (R58). -/
def capList (s : State) (g : Seg) : State := (overCap (s.group g).waiting).foldl (fun t i => t.drop g i) s

/-- The OPEN delegates of a group above its effective max_open, the latest-granted first (R25, R132). -/
def excess (s : State) (g : Seg) : List SeatId := ((s.openDelegates g).drop (s.params g).maxOpen).reverse

/-- The return of excess delegates over a lowered max_open (R25). -/
def returnExcess (s : State) (g : Seg) : State :=
  ((s.excess g).foldl (fun t i => (t.returnSeat g i).offerFreed i (t.seat i).slot) s).capList g

/-! ## The priority key (R75 to R77) -/

/-- CANCEL_ALL: the list is withdrawn and every OPEN delegate is closed (R77, steps 2 to 4). -/
def cancelFloor (s : State) (g : Seg) : State :=
  let n := (s.group g).waiting.length
  let t := s.withdrawAll g
  ((t.openDelegates g).foldl (fun t i => t.close g i .priority) t).post .priorityCancel (some g) .none (some n)

/-- A press of a priority key in a group (R75, R76, R77). -/
def priorityPress (s : State) (g : Seg) : State :=
  let t := s.setGroup g fun r => { r with hold := r.hold + 1 }
  match (s.params g).priorityMode with
  | .muteWhileHeld => if (s.group g).hold = 0 then t.post .priorityMuteOn (some g) .none none else t
  | .cancelAll => if (s.group g).session = .opened then t.cancelFloor g else t

/-- A release of a priority key in a group (R75, R76). -/
def priorityRelease (s : State) (g : Seg) : State :=
  let t := s.setGroup g fun r => { r with hold := r.hold - 1 }
  if (s.params g).priorityMode = .muteWhileHeld ∧ (s.group g).hold = 1 then t.post .priorityMuteOff (some g) .none none else t

/-- A change of a seat's key is reported in the group of its segment; to no group for segment NONE (R44). -/
def reportKey (s : State) (i : SeatId) (held : Bool) : State :=
  match s.groupOf i with
  | none => s
  | some g => if held then s.priorityPress g else s.priorityRelease g

/-! ## Talk presses (R69 to R74) -/

/-- A refused press: light BLOCKED, sent (R69; log entry 15). -/
def refusePress (s : State) (i : SeatId) : State := s.setLight i .blocked

/-- The seat, which holds a request stamp, joins the tail of its group's list (R71, step 4). -/
def joinTail (s : State) (g : Seg) (i : SeatId) : State :=
  let t := (s.setGroup g fun r => { r with waiting := r.waiting ++ [i] }).setSeat i fun q => { q with floor := .waiting }
  (t.setLight i .request).post .requestAdded (some g) (.seat i) (some (t.group g).waiting.length)

/-- The seat takes a request stamp (R60). -/
def takeRequest (s : State) (i : SeatId) : State :=
  s.takeStamp.setSeat i fun q => { q with requestStamp := some s.stamp }

/-- A full list: the press is refused and LIST_FULL posted (R71, step 4). -/
def refuseFull (s : State) (g : Seg) (i : SeatId) : State := (s.refusePress i).post .listFull (some g) (.seat i) none

/-- A request whose outcome is to join (R71, step 4). -/
def joinRequest (s : State) (g : Seg) (i : SeatId) : State :=
  if Config.waitingCap ≤ (s.group g).waiting.length then s.refuseFull g i else (s.takeRequest i).joinTail g i

end State

/-- What the floor mode decides for a request (R71 to R73). -/
inductive RequestOutcome where
  | join
  /-- Granted with a free slot of the seat's line. -/
  | grant (k : SlotNo)
  /-- A delegate of the group is closed with cause OVERRIDE, and the seat granted. -/
  | override (victim : SeatId)
  deriving DecidableEq, Repr

namespace State

/-- The outcome of a request by the group's floor_mode (R72, R73). -/
def requestOutcome (s : State) (g : Seg) (i : SeatId) : RequestOutcome :=
  let free := s.freeSlot (lineOf i)
  let onLine := (s.openDelegates g).find? fun j => lineOf j == lineOf i
  match (s.params g).floorMode with
  | .chair => .join
  | .queue =>
    match s.hasRoom g, free with
    | true, some k => .grant k
    | _, _ => .join
  | .override =>
    match s.hasRoom g, free with
    | true, some k => .grant k
    | false, some _ => ((s.openDelegates g).head?.map RequestOutcome.override).getD .join
    | _, none => (onLine.map RequestOutcome.override).getD .join

/-- The grant in OVERRIDE mode that closes `v`: the request stamp first, then the close, then the grant, with the slot of `v` where
it is on the seat's line, else with the lowest free slot after the slot of `v` is offered to its own line (R73). Where that offer
took the last stamp, no grant stamp is left and the seat joins the list (log entry 14). -/
def overrideGrant (s : State) (g : Seg) (i v : SeatId) : State :=
  let slot := (s.seat v).slot
  let t := (s.takeRequest i).closeCore g v .override
  if lineOf v = lineOf i then
    match slot with
    | some k => t.grant g i k
    | none => t
  else
    let t := t.offerFreed v slot
    if t.exhausted then
      if Config.waitingCap ≤ (t.group g).waiting.length then
        (t.setSeat i fun q => { q with requestStamp := none }).refuseFull g i
      else t.joinTail g i
    else
      match t.freeSlot (lineOf i) with
      | some k => t.grant g i k
      | none => t

/-- A talk press of an IDLE delegate (R71), with the one-stamp rule of R61. -/
def request (s : State) (g : Seg) (i : SeatId) : State :=
  if (s.seat i).mask then s.refusePress i
  else if s.exhausted then s.refusePress i
  else if s.stamp + 1 = Config.lastStamp then s.joinRequest g i
  else
    match s.requestOutcome g i with
    | .join => s.joinRequest g i
    | .grant k => (s.takeRequest i).grant g i k
    | .override v => s.overrideGrant g i v

/-- The delegates that hold slots of a line (R74). -/
def delegatesOn (s : State) (l : LineId) : List SeatId :=
  (allSlots.filterMap fun k => (s.line l).slots.entry k).filter s.isDelegate

/-- A chair's pre-emption of the delegate `v` of group `gv`, whose slot is `k` (R74). -/
def preempt (s : State) (g : Seg) (i : SeatId) (gv : Seg) (v : SeatId) (k : SlotNo) : State :=
  ((((s.returnSeat gv v).capList gv).grant g i k).promote gv)

/-- A talk press of an IDLE chair (R74; log entry 36 for the last stamp). -/
def chairPress (s : State) (g : Seg) (i : SeatId) : State :=
  if s.exhausted then s.refusePress i
  else
    match s.freeSlot (lineOf i) with
    | some k => s.grant g i k
    | none =>
      match s.highestGrant (s.delegatesOn (lineOf i)) with
      | none => (s.refusePress i).post .chairNoSlot (some g) (.seat i) none
      | some v =>
        match s.groupOf v, (s.seat v).slot with
        | some gv, some k => s.preempt g i gv v k
        | _, _ => s

/-- A talk press taken against the group of the seat's segment; discarded for segment NONE (R44, R69, R70, R74). -/
def talkPress (s : State) (i : SeatId) : State :=
  match s.groupOf i with
  | none => s
  | some g =>
    if (s.group g).session = .closed then
      if (s.seat i).light = .blocked then s.setLight i .off else s
    else
      match (s.seat i).kind, (s.seat i).floor with
      | .delegate, .waiting => s.withdraw g i .key
      | .delegate, .opened => s.close g i .key
      | .delegate, .idle => s.request g i
      | .chair, .opened => s.close g i .key
      | .chair, .idle => s.chairPress g i
      | .chair, .waiting => s

/-- The loss of a seat acts on the floor state it holds (R45, step 4). -/
def loseFloor (s : State) (i : SeatId) : State :=
  match s.groupOf i, (s.seat i).floor with
  | some g, .waiting => s.withdraw g i .lost
  | some g, .opened => s.close g i .lost
  | _, _ => s

/-! ## Speaking timers (R83 to R86) -/

/-- A timer's phase and the light that shows it change together (R85, R86). -/
def setPhase (s : State) (i : SeatId) (t : Timer) (p : Phase) : State :=
  s.setSeat i fun q => { q with timer := some { t with phase := p } }

/-- The end of a limit (R86). -/
def endLimit (s : State) (g : Seg) (i : SeatId) (t : Timer) : State :=
  let s := s.post .timeExpired (some g) (.seat i) (some t.limit)
  match (s.params g).limitAction with
  | .close => s.close g i .limit
  | .warn =>
    let s := s.setPhase i t .overrun
    if (s.seat i).light = .warning then s else s.setLight i .warning

/-- The judgment of a counted timer (R85, R86; log entry 27 for a saturated OVERRUN speaker). -/
def judgeTimer (s : State) (g : Seg) (i : SeatId) (t : Timer) : State :=
  let left := t.limit - t.elapsed
  let lead := (s.params g).warnLead
  match t.phase with
  | .untimed => s
  | .overrun => if (s.params g).limitAction = .close then s.close g i .limit else s
  | .running =>
    if left = 0 then s.endLimit g i t
    else if left ≤ lead then ((s.setPhase i t .warned).setLight i .warning).post .timeWarning (some g) (.seat i) (some left)
    else s
  | .warned =>
    if left = 0 then s.endLimit g i t
    else if left ≤ lead then s
    else (s.setPhase i t .running).setLight i .opened

/-- One speaker visited by an expiry: counted, then judged (R83). -/
def visitTimer (s : State) (g : Seg) (i : SeatId) : State :=
  match (s.seat i).timer with
  | none => s
  | some t =>
    let t := { t with elapsed := bump t.elapsed }
    (s.setSeat i fun q => { q with timer := some t }).judgeTimer g i t

/-- The speakers an expiry visits: the OPEN delegates of groups not under priority mute, by ascending anchor and grant (R83, R84). -/
def timedSpeakers (s : State) : List (Seg × SeatId) :=
  s.applied.anchors.flatMap fun g => if s.muted g then [] else (s.openDelegates g).map fun i => (g, i)

end State

end Sys2Proof.Machine
end

