-- ==== Sys2Proof/Machine/Regroup.lean ====
section
/-! DEFINITION. Applying a topology: divisions, folds and finishing (R14, R129 to R145), the evaluation that leads to it (R12) and the
re-examination of a hold (R13). -/

namespace Sys2Proof.Machine

/-- An application in flight: the state, and the deferred slots in the order in which they were freed (R130). -/
structure Flight where
  state : State
  deferred : List (LineId × SlotNo)
  deriving DecidableEq, Repr

namespace Flight

/-- A step of the application that frees no slot. -/
def update (f : Flight) (step : State → State) : Flight := { f with state := step f.state }

/-- A step that frees the slot of seat `i`, which joins the deferred slots (R130). -/
def freeing (f : Flight) (i : SeatId) (step : State → State) : Flight :=
  { state := step f.state
    deferred := f.deferred ++ ((f.state.seat i).slot.map fun k => (lineOf i, k)).toList }

/-- A drop in a regroup; the speaker setting is formed again with the record's feed (R134). LIGHT OFF goes out first, SPEAKER after it
(log entry 40). -/
def dropSeat (g : Seg) (f : Flight) (i : SeatId) : Flight := f.update fun s => (s.drop g i).reformSpeaker i

/-- The regroup return: excess delegates, latest-granted first, are returned, or closed with cause REGROUP where they are in the cut;
then the WAITING seats in the cut are dropped, highest stamp first (R132, R136). -/
def regroupReturn (f : Flight) (g : Seg) : Flight :=
  let s := f.state
  let extra := s.excess g
  let cut := (s.mergeRequests (s.group g).waiting extra).drop Config.waitingCap
  let f := extra.foldl
    (fun f i =>
      if cut.contains i then f.freeing i fun s => s.closeCore g i .regroup else f.freeing i fun s => s.returnSeat g i)
    f
  (cut.reverse.filter fun i => !extra.contains i).foldl (dropSeat g) f

/-- The priority mute of a record judged against what it was: PRIORITY_MUTE_ON or PRIORITY_MUTE_OFF where it changed (R132). -/
def judgeMute (f : Flight) (g : Seg) (was : Bool) : Flight :=
  f.update fun s =>
    match was, s.muted g with
    | false, true => s.post .priorityMuteOn (some g) .none none
    | true, false => s.post .priorityMuteOff (some g) .none none
    | _, _ => s

end Flight

namespace State

/-- The seats of kind CHAIR with segment in the group whose recorded priority key is HELD (R132). -/
def heldKeys (s : State) (g : Seg) : Nat :=
  (allSeats.filter fun i => (s.seat i).kind == .chair && (s.seat i).keyHeld && s.groupOf i == some g).length

/-! ## Division (R131 to R133) -/

/-- The anchors of the pieces of an old group, ascending (R129). -/
def piecesOf (old pieces : Topology) (a : Seg) : List Seg :=
  allSegs.filter fun p => pieces.isAnchor p && old.entry p == a

/-- The records of the pieces of group `a`: the piece of the old anchor keeps the record, every other piece receives a copy of the
session, the fader and the language list; the lists and sets are divided by the segments of the seats (R131, R132, R133). -/
def splitRecords (s : State) (pieces : Topology) (a : Seg) (ps : List Seg) : State :=
  let old := s.group a
  let t := { s with applied := s.applied.mapEntries fun x g => if g = a then pieces.entry x else g }
  { t with
    groups := t.groups.mapEntries fun p r =>
      if ps.contains p then
        { old with
          waiting := old.waiting.filter fun i => t.groupOf i == some p
          openSet := old.openSet.filter fun i => t.groupOf i == some p
          hold := t.heldKeys p }
      else r }

/-- The new records of a division are served, in ascending anchor, floor first and then the list order (R133). -/
def serveNew (live : List (SlotName × BoothId)) (s : State) (p : Seg) : State :=
  if (s.group p).session = .opened then (s.slotLangs p).foldl (fun t l => t.serve live ⟨p, l⟩) s else s

end State

namespace Flight

/-- The division of an old group along the pieces (R131 to R133); none for a group of one piece. DESIGN CHOICE: the floors of the pieces are
brought within their maximum and their mute is judged in ascending anchor (log entry 49). -/
def divide (live : List (SlotName × BoothId)) (old pieces : Topology) (f : Flight) (a : Seg) : Flight :=
  let ps := State.piecesOf old pieces a
  if ps.length ≤ 1 then f
  else
    let was := f.state.muted a
    let f := f.update fun s => s.splitRecords pieces a ps
    let f := ps.foldl (fun f p => (f.regroupReturn p).judgeMute p (p == a && was)) f
    (ps.filter (· != a)).foldl (fun f p => f.update fun s => s.serveNew live p) f

end Flight

namespace State

/-! ## Fold (R134 to R140) -/

/-- Which of two slots of one language loses in a fold (R139): an allocated slot beats a queued one, a queued one a dormant one,
R's channel is kept between two allocated, the earlier place between two queued, and R's slot between two dormant. -/
def loserOf (r j : SlotName × SlotState) : SlotName :=
  match r.2, j.2 with
  | .allocated _, _ => j.1
  | .queued _, .allocated _ => r.1
  | .queued m, .queued n => if n < m then r.1 else j.1
  | .queued _, .dormant => j.1
  | .dormant, .allocated _ => r.1
  | .dormant, .queued _ => r.1
  | .dormant, .dormant => j.1

/-- The languages of J that R's list has no slot for, in J's order (R138). -/
def newLangs (s : State) (r j : Seg) : List Lang := (s.group j).langs.filter fun l => !(s.group r).langs.contains l

/-- How many of them fit R's list of twelve (R138). -/
def langRoom (s : State) (r : Seg) : Nat := Config.languageCap - (s.group r).langs.length

/-- The slots that lose or are dropped in the fold of J into R (R138, R139). -/
def losingSlots (s : State) (r j : Seg) : List SlotName :=
  ((s.slotLangs j).filter fun l => (s.slotLangs r).contains l).map
      (fun l => loserOf (⟨r, l⟩, s.slotState ⟨r, l⟩) (⟨j, l⟩, s.slotState ⟨j, l⟩)) ++
    ((s.newLangs r j).drop (s.langRoom r)).map fun l => ⟨j, l⟩

/-- A slot of J that survives is named by R's anchor (R139). -/
def renamed (r j : Seg) (n : SlotName) : SlotName := if n.group = j then ⟨r, n.language⟩ else n

/-- The channels of the losing slots of J, in the order of J's list (R140, second pass). -/
def losingChannels (s : State) (j : Seg) (losing : List SlotName) : List (ChanId × Lang) :=
  (s.slotLangs j).filterMap fun l =>
    if losing.contains ⟨j, l⟩ then (s.channelOf ⟨j, l⟩).map fun c => (c, l) else none

/-- The channel table and the wait queue after the losers have left the queue and the survivors of J are R's (R139, R140). -/
def adoptSlots (s : State) (r j : Seg) (losing : List SlotName) : State :=
  { s with
    waitQueue := (s.waitQueue.filter fun n => !losing.contains n).map (renamed r j)
    channels := s.channels.mapEntries fun _ e =>
      { e with owner := e.owner.map fun n => if losing.contains n then n else renamed r j n } }

/-- The language part of a fold (R138 to R140). -/
def foldLanguages (live : List (SlotName × BoothId)) (s : State) (r j : Seg) : State :=
  let added := (s.newLangs r j).take (s.langRoom r)
  let dropped := (s.newLangs r j).drop (s.langRoom r)
  let losing := s.losingSlots r j
  let channels := s.losingChannels j losing
  let t := s.setGroup r fun e => { e with langs := e.langs ++ added }
  let t := dropped.foldl (fun t l => t.post .languageDropped (some r) .none (some l.val)) t
  let t := if added.isEmpty && dropped.isEmpty then t else t.flagChange r
  let t := t.adoptSlots r j losing
  let t := channels.foldl (fun t cl => t.release live cl.1 r cl.2) t
  if (t.group r).session = .opened then
    (t.slotLangs r).foldl
      (fun t l => if t.slotState ⟨r, l⟩ = .dormant then t.serve live ⟨r, l⟩ else t) t
  else t

/-- Members, session, lists, sets and hold counts of a fold (R134 to R137): J's segments become R's, the session is OPEN if either
was, the fader is R's, the lists and sets are merged by stamp and the hold counts added. -/
def foldRecords (s : State) (r j : Seg) : State :=
  let a := s.group r
  let b := s.group j
  let t := { s with applied := s.applied.mapEntries fun _ g => if g = j then r else g }
  t.setGroup r fun e =>
    { e with
      session := if a.session = .opened ∨ b.session = .opened then .opened else .closed
      waiting := t.mergeRequests a.waiting b.waiting
      openSet := t.mergeGrants a.openSet b.openSet
      hold := a.hold + b.hold }

end State

namespace Flight

/-- The fold of the record of piece `j` into the receiving record `r` (R134 to R140). -/
def fold (live : List (SlotName × BoothId)) (r : Seg) (f : Flight) (j : Seg) : Flight :=
  let was := f.state.muted r
  let f := f.update fun s => s.foldRecords r j
  let f := (State.overCap (f.state.group r).waiting).foldl (dropSeat r) f
  let f := (f.regroupReturn r).judgeMute r was
  let f := f.update fun s => s.foldLanguages live r j
  f.update fun s => s.setGroup j fun _ => Group.empty

/-- A new group formed by folding its later pieces into its first (R129). -/
def foldGroup (live : List (SlotName × BoothId)) (new pieces : Topology) (f : Flight) (n : Seg) : Flight :=
  (State.piecesOf new pieces n).tail.foldl (fold live n) f

end Flight

namespace State

/-! ## Finishing (R14, R141 to R145) -/

/-- The members of `p`'s group are not the same in the two groupings (R129: the group is not untouched). -/
def touched (old new : Topology) (p : Seg) : Bool :=
  allSegs.any fun x => (old.entry x == old.entry p) != (new.entry x == new.entry p)

/-- The unit goes to IN_STEP, posts GROUPS_CHANGED, and sets the change flag of every record created, kept with a changed member set,
or folded away (R14). -/
def closeApplication (old new pieces : Topology) (s : State) : State :=
  let t := ({ s with regroup := .inStep }).post .groupsChanged none .none (some s.applied.anchorSet.toNat)
  (allSegs.filter fun p => pieces.isAnchor p && touched old new p).foldl flagChange t

/-- The roles are recomputed and every ALLOCATED channel's content decided again (R142; log entry 17). -/
def finishBooths (s : State) : State := s.recomputeRoles.redecideAll

/-- The deferred slots are offered, in the order in which they were freed (R144). -/
def offerDeferred (s : State) (deferred : List (LineId × SlotNo)) : State :=
  deferred.foldl (fun t d => t.offerSlot d.1 d.2) s

/-- Promotion passes run on every group that a division created or kept and every group that received a fold (R144). -/
def promoteTouched (old new : Topology) (s : State) : State :=
  (new.anchors.filter (touched old new)).foldl promote s

/-- The floor bus of a number that is no anchor holds 0 (R147). -/
def clearBuses (s : State) : State :=
  { s with floorBus := s.floorBus.mapEntries fun n x => if s.applied.isAnchor n then x else 0 }

/-- The proposed topology is applied, as one event: divisions, folds, finishing (R14, R129). The mix targets of R145 are formed by
`finish` at the end of the event. Contents are decided against the live outputs of the old groups until R142 (log entry 18), and a new
group's old authority is that of the old group of its anchor (log entry 34). -/
def applyTopology (s : State) : State :=
  let old := s.applied
  let new := s.proposed
  let pieces := Topology.pieces old new
  let live := s.liveOutputs
  let f : Flight := { state := s, deferred := [] }
  let f := old.anchors.foldl (Flight.divide live old pieces) f
  let f := new.anchors.foldl (Flight.foldGroup live new pieces) f
  let t := closeApplication old new pieces f.state
  let t := allSeats.foldl reformSpeaker t
  let t := t.finishBooths
  let t := announceAuthority (fun g => s.chairAuth (old.entry g)) s.interpAuth t
  let t := t.offerDeferred f.deferred
  (promoteTouched old new t).clearBuses

/-! ## Evaluation and re-examination (R12, R13) -/

/-- The set of anchors of the groups held open (R12). -/
def heldSet (s : State) : BitVec 8 := segSet s.heldOpen

/-- An affected group is held open (R12, R13). -/
def anyHeld (s : State) : Bool := allSegs.any s.heldOpen

/-- The evaluation of R12. -/
def evaluate (s : State) : State :=
  let t := { s with proposed := s.formProposed }
  if t.proposed = t.applied then
    let u := { t with regroup := .inStep }
    if s.regroup = .inStep then u else u.post .topologyInStep none .none none
  else if t.anyHeld then
    ({ t with regroup := .pending }).post .topologyPending none .none (some t.heldSet.toNat)
  else t.applyTopology

/-- The re-examination of a hold, while PENDING (R13). -/
def reexamine (s : State) : State :=
  if s.regroup = .pending then if s.anyHeld then s else s.applyTopology else s

/-! ## Walls (R4 to R7) -/

/-- The effective state of a wall becomes `e`: where it changes, WALL_CHANGED, and for an assigned wall the evaluation (R5). -/
def setEffective (s : State) (w : WallId) (e : WallPos) : State :=
  if (s.wall w).effective = e then s
  else
    let t := (s.setWall w fun r => { r with effective := e }).post .wallChanged none (.wall w) (some e.noticeCode)
    if (s.wall w).ends.isSome then t.evaluate else t

/-- The effective state takes the resolved state, where that is OPEN or CLOSED (R4, R7). -/
def followSensors (s : State) (w : WallId) : State :=
  match (s.wall w).resolved with
  | .opened => s.setEffective w .opened
  | .closed => s.setEffective w .closed
  | _ => s

/-- A wall's settle timer expires (R4), and the stable time is the settle time (R3; log entries 5 and 46). -/
def expireSettle (s : State) (w : WallId) : State :=
  let t := s.setWall w fun r => { r with status := .settled, stable := r.settle * Config.halfSecond }
  if (s.wall w).override = .follow then t.followSensors w else t

end State

end Sys2Proof.Machine
end

