-- ==== Sys2Proof/Machine/FloorCommands.lean ====
section
/-! DEFINITION. The Floor Controller's commands (R66 to R68, R78 to R81). -/

namespace Sys2Proof.Machine

/-! ## The checks of R66 -/

/-- Fence, group, authority (R66, checks 1 to 3). -/
def groupChecks (s : State) (port : PortId) (g : Byte) : Except ResultCode Seg := do
  s.notFenced port
  let g ← s.namedGroup g.toNat
  s.hasChair port g
  return g

/-- The four checks of R66 for a command that names a seat. -/
def seatInGroup (s : State) (port : PortId) (g hi lo : Byte) : Except ResultCode (Seg × SeatId) := do
  let g ← groupChecks s port g
  let i ← need (item? 256 (u16 hi lo)) .noSuch
  refuseIf (s.groupOf i != some g) .noSuch
  return (g, i)

/-! ## Sessions (R67, R68) -/

namespace State

/-- A session opens (R67, R120). -/
def openSession (s : State) (g : Seg) : State :=
  (((s.setGroup g fun r => { r with session := .opened }).openSlots g).post .sessionOpened (some g) .none none).flagChange g

/-- The seats listed are closed one after the other with a cause (R68, R80). -/
def closeSeats (s : State) (g : Seg) (is : List SeatId) (cause : CloseCause) : State :=
  is.foldl (fun t i => t.close g i cause) s

/-- A session closes (R68). -/
def closeSession (s : State) (g : Seg) : State :=
  let n := (s.group g).waiting.length
  let t := (s.setGroup g fun r => { r with session := .closed }).withdrawAll g
  let t := t.closeSeats g (t.group g).openSet .session
  (((t.closeSlots g).post .sessionClosed (some g) .none (some n)).flagChange g).reexamine

end State

def ruleOpenSession (port : PortId) (params : List Byte) (s : State) : Rule :=
  match params with
  | [g] => do
    let g ← groupChecks s port g
    refuseIf ((s.group g).session == .opened) .wrongState
    return { state := (s.openSession g).finish }
  | _ => .error .badParam

/-- OPEN_SESSION (R67). -/
def execOpenSession (port : PortId) (params : List Byte) (s : State) : Result :=
  .next (s.take port (ruleOpenSession port params))

def ruleCloseSession (port : PortId) (params : List Byte) (s : State) : Rule :=
  match params with
  | [g] => do
    let g ← groupChecks s port g
    refuseIf ((s.group g).session == .closed) .wrongState
    return { state := (s.closeSession g).finish }
  | _ => .error .badParam

/-- CLOSE_SESSION (R68). -/
def execCloseSession (port : PortId) (params : List Byte) (s : State) : Result :=
  .next (s.take port (ruleCloseSession port params))

/-! ## Grants (R78) -/

/-- The checks of R78 that follow `nothing to grant`: the counter and the room. -/
def grantChecks (s : State) (g : Seg) : Except ResultCode Unit := do
  refuseIf s.exhausted .wrongState
  refuseIf (!s.hasRoom g) .full

/-- A grant made by a command, with the seat and the slot as response (R78). -/
def State.grantDone (s : State) (g : Seg) (i : SeatId) (k : SlotNo) : Done :=
  { state := (s.grant g i k).finish, data := put16 i.val ++ put8 k.val }

def ruleGrantNext (port : PortId) (params : List Byte) (s : State) : Rule :=
  match params with
  | [g] => do
    let g ← groupChecks s port g
    refuseIf ((s.group g).session == .closed) .wrongState
    refuseIf (s.group g).waiting.isEmpty .wrongState
    grantChecks s g
    let ik ← need (s.nextGrant g) .noSlot
    return s.grantDone g ik.1 ik.2
  | _ => .error .badParam

/-- GRANT_NEXT (R78). -/
def execGrantNext (port : PortId) (params : List Byte) (s : State) : Result :=
  .next (s.take port (ruleGrantNext port params))

def ruleGrantSeat (port : PortId) (params : List Byte) (s : State) : Rule :=
  match params with
  | [g, hi, lo] => do
    let (g, i) ← seatInGroup s port g hi lo
    refuseIf ((s.group g).session == .closed) .wrongState
    refuseIf ((s.seat i).floor != .waiting) .wrongState
    grantChecks s g
    let k ← need (s.freeSlot (lineOf i)) .noSlot
    return s.grantDone g i k
  | _ => .error .badParam

/-- GRANT_SEAT (R78). -/
def execGrantSeat (port : PortId) (params : List Byte) (s : State) : Result :=
  .next (s.take port (ruleGrantSeat port params))

/-! ## Closes and withdrawals (R79, R80) -/

def ruleCloseSeat (port : PortId) (params : List Byte) (s : State) : Rule :=
  match params with
  | [g, hi, lo] => do
    let (g, i) ← seatInGroup s port g hi lo
    refuseIf ((s.seat i).floor != .opened) .wrongState
    return { state := (s.close g i .command).finish }
  | _ => .error .badParam

/-- CLOSE_SEAT (R79). -/
def execCloseSeat (port : PortId) (params : List Byte) (s : State) : Result :=
  .next (s.take port (ruleCloseSeat port params))

def ruleCancelRequest (port : PortId) (params : List Byte) (s : State) : Rule :=
  match params with
  | [g, hi, lo] => do
    let (g, i) ← seatInGroup s port g hi lo
    refuseIf ((s.seat i).floor != .waiting) .wrongState
    return { state := (s.withdraw g i .command).finish }
  | _ => .error .badParam

/-- CANCEL_REQUEST (R79). -/
def execCancelRequest (port : PortId) (params : List Byte) (s : State) : Result :=
  .next (s.take port (ruleCancelRequest port params))

def ruleCloseAll (port : PortId) (params : List Byte) (s : State) : Rule :=
  match params with
  | [g] => do
    let g ← groupChecks s port g
    refuseIf ((s.group g).session == .closed) .wrongState
    let is := s.openDelegates g
    return { state := (s.closeSeats g is .command).finish, data := put8 is.length }
  | _ => .error .badParam

/-- CLOSE_ALL (R80). -/
def execCloseAll (port : PortId) (params : List Byte) (s : State) : Result :=
  .next (s.take port (ruleCloseAll port params))

/-- The waiting list is cleared by command: LIST_CLEARED with the number withdrawn (R80). -/
def State.clearList (s : State) (g : Seg) : State :=
  (s.withdrawAll g).post .listCleared (some g) .none (some (s.group g).waiting.length)

def ruleClearList (port : PortId) (params : List Byte) (s : State) : Rule :=
  match params with
  | [g] => do
    let g ← groupChecks s port g
    refuseIf ((s.group g).session == .closed) .wrongState
    return { state := (s.clearList g).finish, data := put8 (s.group g).waiting.length }
  | _ => .error .badParam

/-- CLEAR_LIST (R80). -/
def execClearList (port : PortId) (params : List Byte) (s : State) : Result :=
  .next (s.take port (ruleClearList port params))

/-! ## Reading the floor (R81) -/

namespace State

/-- The fields of READ_FLOOR ahead of its entries (R81). -/
def floorHeader (s : State) (g : Seg) : List Byte :=
  let r := s.group g
  let delegates := (s.openDelegates g).length
  put8 r.session.code ++ put8 delegates ++ put8 (r.openSet.length - delegates) ++ put8 (s.params g).maxOpen ++
    put8 r.waiting.length ++ put16 r.hold ++ put32 s.stamp

/-- An entry of the waiting list (R81). -/
def waitingEntry (s : State) (i : SeatId) : List Byte := put16 i.val ++ putStamp (s.seat i).requestStamp

/-- An entry of the open set (R81). -/
def openEntry (s : State) (i : SeatId) : List Byte :=
  s.waitingEntry i ++ putStamp (s.seat i).grantStamp ++ putOpt ((s.seat i).slot.map Fin.val)

/-- The entries of a collection from a starting position on, as many as fit in a response of 30 bytes: three of the waiting list, one of
the open set (R81; log entry 20). -/
def floorEntries (s : State) (g : Seg) (c : Collection) (start : Nat) : List Byte :=
  match c with
  | .waiting => (((s.group g).waiting.drop (start - 1)).take 3).flatMap s.waitingEntry
  | .opened => (((s.group g).openSet.drop (start - 1)).take 1).flatMap s.openEntry

end State

def ruleReadFloor (params : List Byte) (s : State) : Rule :=
  match params with
  | [g, c, n] => do
    let g ← s.namedGroup g.toNat
    let c ← need (choice? collections c.toNat) .badParam
    return { state := s, data := s.floorHeader g ++ s.floorEntries g c n.toNat }
  | _ => .error .badParam

/-- READ_FLOOR (R81): served to every port. -/
def execReadFloor (port : PortId) (params : List Byte) (s : State) : Result :=
  .next (s.take port (ruleReadFloor params))

end Sys2Proof.Machine
end

