-- ==== Sys2Proof/Machine/Lines.lean ====
section
/-! DEFINITION. The Line Controllers: enumeration, verification, roll call, seat configuration and the reading of a line (chapter 3). -/

namespace Sys2Proof.Machine

namespace State

/-! ## Polling (R38, R41) -/

/-- The line goes to RUNNING: LINE_READY with the unit count, and roll call begins at address 1 (R38, R41). -/
def startRunning (s : State) (l : LineId) : State :=
  (s.setLine l fun r => { r with state := .running, poll := 1 }).post .lineReady none (.line l)
    (some (s.line l).unitCount)

/-- Addressing gave a unit count of at least 1: the line goes to VERIFYING where verify was on, else to RUNNING (R36, R37, R38). -/
def startPolling (s : State) (l : LineId) : State :=
  if (s.line l).verify then s.setLine l fun r => { r with state := .verifying, poll := 1, verifyRound := 0 }
  else s.startRunning l

/-- The seats of the addresses 1 to the unit count, ascending (R41). -/
def polledSeats (s : State) (l : LineId) : List SeatId :=
  (seatsOf l).filter fun i => decide (addressOf i ≤ (s.line l).unitCount)

/-- The end of verification: VERIFY_FAIL for each polled address that never came ONLINE, then the line runs (R38). -/
def endVerify (s : State) (l : LineId) : State :=
  (((s.polledSeats l).filter fun i => (s.seat i).link != .online).foldl
    (fun t i => t.post .verifyFail none (.seat i) none) s).startRunning l

/-- The next poll: the next address, or address 1 when a round ends, which a verification counts (R38, R41). -/
def advancePoll (s : State) (l : LineId) : State :=
  let r := s.line l
  if r.poll < r.unitCount then s.setLine l fun r => { r with poll := r.poll + 1 }
  else if r.state = .verifying then
    let t := s.setLine l fun r => { r with poll := 1, verifyRound := r.verifyRound + 1 }
    if r.verifyRound + 1 < 2 then t else t.endVerify l
  else s.setLine l fun r => { r with poll := 1 }

/-! ## Loss and return of a seat (R43, R45) -/

/-- The recorded priority key, where HELD, becomes RELEASED and the release is reported (R35, R45). -/
def dropKey (s : State) (i : SeatId) : State :=
  if (s.seat i).keyHeld then (s.setSeat i fun q => { q with keyHeld := false }).reportKey i false else s

/-- SEAT_LOST, with the anchor of the seat's group (R45). -/
def postSeatLost (s : State) (i : SeatId) : State := s.post .seatLost (s.groupOf i) (.seat i) none

/-- The seat is lost (R45). -/
def loseSeat (s : State) (i : SeatId) : State :=
  (((s.setSeat i fun q => { q with link := .lost }).postSeatLost i).dropKey i).loseFloor i

/-- The starting commands of a seat that comes ONLINE: MIC_OFF, LIGHT with the row's state, SPEAKER (R46). -/
def sendStart (s : State) (i : SeatId) : State :=
  ((s.send i .micOff).send i (.light (s.seat i).light)).sendSpeaker i

/-- SEAT_ONLINE with the unit kind, and the starting commands (R43). -/
def announceSeat (s : State) (i : SeatId) : State :=
  (s.post .seatOnline (s.groupOf i) (.seat i) (some (s.seat i).kind.noticeCode)).sendStart i

/-- The seat comes back (R43). Its light starts from OFF (R46, R48; log entry 31). -/
def comeOnline (s : State) (i : SeatId) (k : UnitKind) : State :=
  (s.setSeat i fun q => { q with link := .online, kind := k, missed := 0, light := .off }).announceSeat i

/-- The priority key state of a reply against the record of a chair (R44). -/
def hearKey (s : State) (i : SeatId) (held : Bool) : State :=
  if (s.seat i).kind = .chair ∧ (s.seat i).keyHeld ≠ held then
    (s.setSeat i fun q => { q with keyHeld := held }).reportKey i held
  else s

/-- The keys of a reply from an ONLINE seat: the priority key first, then the talk press (R44). -/
def hearKeys (s : State) (i : SeatId) (r : SeatReply) : State :=
  let t := s.hearKey i r.key
  if r.talk then t.talkPress i else t

/-- A valid reply in RUNNING (R43, R44). -/
def hearRunning (s : State) (i : SeatId) (k : UnitKind) (r : SeatReply) : State :=
  if (s.seat i).link = .online then
    if (s.seat i).kind = k then (s.setSeat i fun q => { q with missed := 0 }).hearKeys i r
    else ((s.loseSeat i).comeOnline i k).hearKey i r.key
  else (s.comeOnline i k).hearKey i r.key

/-- A valid reply in VERIFYING (R38, R43). -/
def hearVerifying (s : State) (i : SeatId) (k : UnitKind) : State :=
  if (s.seat i).link = .online then
    let t := s.setSeat i fun q => { q with missed := 0, kind := k }
    if (s.seat i).kind = k then t else t.announceSeat i
  else s.comeOnline i k

/-- A valid reply of the address polled (R42, R43). -/
def hearReply (s : State) (l : LineId) (k : UnitKind) (r : SeatReply) : State :=
  let i := seatAt l (s.line l).poll
  if (s.line l).state = .running then s.hearRunning i k r else s.hearVerifying i k

end State

/-- SEAT_REPLY (R42): a reply of five bytes within the reply window of a line that polls. A discarded reply leaves the window open, so
that its expiry counts the poll (log entry 6). -/
def execSeatReply (l : LineId) (reply : List Byte) (s : State) : Result :=
  .next <|
    if (s.line l).state = .verifying ∨ (s.line l).state = .running then
      match seatReplyOf reply with
      | none => s
      | some r =>
        if crc16 reply ≠ 0 then s.setLine l fun c => { c with badCrc := bump c.badCrc }
        else
          match r.kind with
          | none => s
          | some k => if r.address = (s.line l).poll then ((s.hearReply l k r).advancePoll l).finish else s
    else s

/-- A poll without a valid reply (R45). -/
def State.missPoll (s : State) (i : SeatId) : State :=
  if (s.line (lineOf i)).state = .running ∧ (s.seat i).link = .online then
    let t := s.setSeat i fun q => { q with missed := q.missed + 1 }
    if (s.seat i).missed + 1 < Config.lostRounds then t else t.loseSeat i
  else s

/-- REPLY_WINDOW_EXPIRY (R45): the poll had no valid reply. -/
def execReplyWindowExpiry (l : LineId) (s : State) : Result :=
  .next <|
    if (s.line l).state = .verifying ∨ (s.line l).state = .running then
      ((s.missPoll (seatAt l (s.line l).poll)).advancePoll l).finish
    else s

/-! ## Addressing (R34 to R37) -/

namespace State

/-- A seat of the line is WAITING or OPEN (R34). -/
def lineInUse (s : State) (l : LineId) : Bool := (seatsOf l).any fun i => (s.seat i).floor != .idle

/-- A seat in use is reported lost by a forced enumeration (R35, step 1). -/
def forceLost (s : State) (i : SeatId) : State := (s.postSeatLost i).loseFloor i

/-- The seats of a line with a floor state, ascending. -/
def seatsWith (s : State) (l : LineId) (f : FloorState) : List SeatId := (seatsOf l).filter fun i => (s.seat i).floor == f

/-- The line is cleared of every seat's earlier state, and addressing begins (R35). The HELD keys of step 2 are released in ascending
address, an order R35 leaves open (log entry 42). -/
def startAddressing (s : State) (l : LineId) (verify : Bool) : State :=
  let t := (s.seatsWith l .waiting).foldl forceLost s
  let t := (t.seatsWith l .opened).foldl forceLost t
  let t := (seatsOf l).foldl dropKey t
  let t : State := { t with
    seats := t.seats.mapEntries fun i q =>
      if lineOf i = l then { q with link := .unused, missed := 0, floor := .idle, light := .off } else q }
  t.setLine l fun r =>
    { r with
      state := .addressing, fault := .none, unitCount := 0, position := 0, verifyRound := 0, verify := verify,
      slots := Vector.replicate 8 none }

end State

/-- The checks that ENUMERATE_LINE and CANCEL_LINE_OPERATION share: fence, authority, line, flags (R34, R39). -/
def lineChecks (s : State) (port : PortId) (l : Byte) (flags : List Byte) : Except ResultCode (LineId × List Bool) := do
  s.notFenced port
  s.isSupervisor port
  let l ← need (item? 4 l.toNat) .noSuch
  let fs ← need (flags.mapM flag?) .badParam
  return (l, fs)

def ruleEnumerateLine (port : PortId) (params : List Byte) (s : State) : Rule :=
  match params with
  | [l, v, f] => do
    let (l, flags) ← lineChecks s port l [v, f]
    let verify := flags.getD 0 false
    let force := flags.getD 1 false
    refuseIf ((s.line l).state == .addressing || (s.line l).state == .verifying) .busy
    refuseIf (s.lineInUse l && !force) .inUse
    return { state := (s.startAddressing l verify).finish, code := .accepted }
  | _ => .error .badParam

/-- ENUMERATE_LINE (R34, R35). -/
def execEnumerateLine (port : PortId) (params : List Byte) (s : State) : Result :=
  .next (s.take port (ruleEnumerateLine port params))

namespace State

/-- Addressing ends with the chain open (R37). -/
def chainOpen (s : State) (l : LineId) : State :=
  (s.setLine l fun r => { r with state := .fault, fault := .chainOpen, unitCount := 0 }).post .lineFault none (.line l)
    (some 512)

/-- A valid acknowledge of address `a` (R36). -/
def acknowledge (s : State) (l : LineId) (a : Nat) (chainEnd : Bool) : State :=
  let t := s.setLine l fun r => { r with position := a }
  if chainEnd then (t.setLine l fun r => { r with unitCount := a }).startPolling l
  else if a < 64 then t
  else t.chainOpen l

/-- Addressing ends at a break: no valid acknowledge of the address offered (R37). -/
def chainBreak (s : State) (l : LineId) : State :=
  let a := (s.line l).position + 1
  let t := (s.setLine l fun r => { r with fault := .chainBreak a, unitCount := a - 1 }).post .lineFault none (.line l)
    (some (256 + a))
  if a = 1 then t.setLine l fun r => { r with state := .fault } else t.startPolling l

end State

/-- ADDRESSING_ACKNOWLEDGE (R36): an acknowledge of another address than the one offered, or outside ADDRESSING, is disregarded. -/
def execAddressingAcknowledge (l : LineId) (address : Byte) (chainEnd : Bool) (s : State) : Result :=
  .next <|
    if (s.line l).state = .addressing ∧ address.toNat = (s.line l).position + 1 then
      (s.acknowledge l address.toNat chainEnd).finish
    else s

/-- STEP_TIMEOUT (R37). -/
def execStepTimeout (l : LineId) (s : State) : Result :=
  .next (if (s.line l).state = .addressing then (s.chainBreak l).finish else s)

/-- A cancel of the operation in progress (R39). -/
def State.cancelLine (s : State) (l : LineId) (notify : Bool) : State :=
  let t := if notify then s.post .lineCancelled none (.line l) none else s
  if (s.line l).state = .addressing then t.setLine l fun r => { r with state := .down, unitCount := 0, position := 0 }
  else t.startRunning l

def ruleCancelLineOperation (port : PortId) (params : List Byte) (s : State) : Rule :=
  match params with
  | [l, n] => do
    let (l, flags) ← lineChecks s port l [n]
    refuseIf ((s.line l).state != .addressing && (s.line l).state != .verifying) .wrongState
    return { state := (s.cancelLine l (flags.getD 0 false)).finish }
  | _ => .error .badParam

/-- CANCEL_LINE_OPERATION (R39). -/
def execCancelLineOperation (port : PortId) (params : List Byte) (s : State) : Result :=
  .next (s.take port (ruleCancelLineOperation port params))

/-! ## Seat configuration (R52 to R54) -/

/-- The checks that the seat configuration commands share: fence, authority, seat (R52). -/
def seatChecks (s : State) (port : PortId) (hi lo : Byte) : Except ResultCode SeatId := do
  s.notFenced port
  s.isSupervisor port
  need (item? 256 (u16 hi lo)) .noSuch

/-- A change of an IDLE seat's segment: the speaker setting is formed again, and a held key of a chair is released in the old group and
pressed in the new (R52). -/
def State.moveSeat (s : State) (i : SeatId) (x : Option Seg) : State :=
  let t := (s.setSeat i fun q => { q with segment := x }).reformSpeaker i
  if (s.seat i).keyHeld ∧ (s.seat i).kind = .chair then
    let t := match s.groupOf i with
      | some g => t.priorityRelease g
      | none => t
    t.reportKey i true
  else t

def ruleSetSeatSegment (port : PortId) (params : List Byte) (s : State) : Rule :=
  match params with
  | [hi, lo, x] => do
    let i ← seatChecks s port hi lo
    let x ← need (segmentOrNone? x) .badParam
    refuseIf ((s.seat i).floor != .idle) .inUse
    if (s.seat i).segment = x then return { state := s }
    return { state := (s.moveSeat i x).finish }
  | _ => .error .badParam

/-- SET_SEAT_SEGMENT (R52). -/
def execSetSeatSegment (port : PortId) (params : List Byte) (s : State) : Result :=
  .next (s.take port (ruleSetSeatSegment port params))

def ruleSetSeatTrim (port : PortId) (params : List Byte) (s : State) : Rule :=
  match params with
  | [hi, lo, t] => do
    let i ← seatChecks s port hi lo
    return { state := (s.setSeat i fun q => { q with trim := trimOf t }).finish, data := putTrim (trimOf t) }
  | _ => .error .badParam

/-- SET_SEAT_TRIM (R53). -/
def execSetSeatTrim (port : PortId) (params : List Byte) (s : State) : Result :=
  .next (s.take port (ruleSetSeatTrim port params))

def ruleSetSeatMask (port : PortId) (params : List Byte) (s : State) : Rule :=
  match params with
  | [hi, lo, m] => do
    let i ← seatChecks s port hi lo
    let m ← need (flag? m) .badParam
    return { state := s.setSeat i fun q => { q with mask := m } }
  | _ => .error .badParam

/-- SET_SEAT_MASK (R54). -/
def execSetSeatMask (port : PortId) (params : List Byte) (s : State) : Result :=
  .next (s.take port (ruleSetSeatMask port params))

/-! ## Reading a line (R55) -/

/-- The holder of an uplink slot, or free. -/
def putHolder : Option SeatId → List Byte
  | some i => put16 i.val
  | none => put16 Config.freeSlotCode.toNat

/-- The response of READ_LINE_STATUS (R55). -/
def Line.bytes (r : Line) : List Byte :=
  put8 r.state.code ++ [r.fault.byte] ++ put8 r.unitCount ++ put8 r.position ++ put8 r.verifyRound ++
    r.slots.toList.flatMap putHolder ++ put16 r.badCrc ++ put16 r.audioDrop

def ruleReadLineStatus (params : List Byte) (s : State) : Rule :=
  match params with
  | [l, c] => do
    let l ← need (item? 4 l.toNat) .noSuch
    let c ← need (flag? c) .badParam
    let t := if c then s.setLine l fun r => { r with badCrc := 0, audioDrop := 0 } else s
    return { state := t, data := (s.line l).bytes }
  | _ => .error .badParam

/-- READ_LINE_STATUS (R55): served to every port. -/
def execReadLineStatus (port : PortId) (params : List Byte) (s : State) : Result :=
  .next (s.take port (ruleReadLineStatus params))

end Sys2Proof.Machine
end

