-- ==== Sys2Proof/Machine/Mix.lean ====
section
/-! DEFINITION. The Mix Engine: a word-clock frame, the loss of the clock, the fader and the reading of the mix (chapter 9). -/

namespace Sys2Proof.Machine

/-! ## Rounding and saturation (R159) -/

/-- Steps 1 and 2 of R159: 16 384 is added and the sum shifted right by 15 places, toward minus infinity. -/
def roundOff (sum : Int) : Int := (sum + 16384) / 32768

/-- Step 3 of R159. -/
def saturate (x : Int) : Int := max (-8388608) (min 8388607 x)

/-- The result is saturated (R159, R160). -/
def clipped (x : Int) : Bool := saturate x != x

/-- An output sample (R159). -/
def toSample (x : Int) : Sample := BitVec.ofInt 24 (saturate x)

/-! ## Output numbers (R147) -/

def busOut (g : Seg) : OutId := ⟨g.val, by omega⟩
def channelOut (c : ChanId) : OutId := ⟨8 + c.val, by omega⟩
/-- Desk b.d as entry 3b + d. -/
def deskIndex (b : BoothId) (d : DeskNo) : Fin 36 := ⟨3 * b.val + d.val, by omega⟩
def deskOut (k : Fin 36) : OutId := ⟨40 + k.val, by omega⟩
def boothOfDesk (k : Fin 36) : BoothId := ⟨k.val / 3, by omega⟩
def deskOfDesk (k : Fin 36) : DeskNo := ⟨k.val % 3, by omega⟩

/-- The samples received in the uplink slots of a frame (R151). -/
abbrev Uplink := Vector (Option Sample) 32

namespace State

/-! ## Inputs (R151) -/

/-- The uplink slot is held by an OPEN seat (R151). -/
def slotLive (s : State) (l : LineId) (k : SlotNo) : Bool :=
  ((s.line l).slots.entry k).any fun i => (s.seat i).floor == .opened

/-- The sample of an uplink slot: 0 where none was received, and for a free slot (R151). -/
def slotSample (s : State) (up : Uplink) (l : LineId) (k : SlotNo) : Int :=
  if s.slotLive l k then ((up[l.val * 8 + k.val]'(by omega)).getD 0).toInt else 0

/-- The missing samples of a line in a frame (R151). -/
def missingSamples (s : State) (up : Uplink) (l : LineId) : Nat :=
  (allSlots.filter fun k => s.slotLive l k && (up[l.val * 8 + k.val]'(by omega)).isNone).length

/-- The audio-drop counters take the missing samples of a frame (R33, R151). -/
def countDrops (s : State) (up : Uplink) : State :=
  { s with lines := s.lines.mapEntries fun l r =>
      { r with audioDrop := min (r.audioDrop + s.missingSamples up l) Config.counterTop } }

/-! ## Sums (R157, R158) -/

/-- An OPEN seat's term of its floor bus: the sample of its slot times the applied gain of the mic point (R157). -/
def micTerm (s : State) (up : Uplink) (i : SeatId) : Int :=
  match (s.seat i).slot with
  | none => 0
  | some k => s.slotSample up (lineOf i) k * (s.gain (micPoint (lineOf i) k)).applied

/-- The floor bus sum of a group (R157). -/
def busSum (s : State) (up : Uplink) (g : Seg) : Int := ((s.group g).openSet.map (s.micTerm up)).sum

/-- The result of a floor bus before saturation; 0 for a number that is no anchor (R147, R157, R159). -/
def busResult (s : State) (up : Uplink) (g : Seg) : Int :=
  if s.applied.isAnchor g then roundOff (s.busSum up g) else 0

/-- The floor bus of a group as formed in this frame; 0 where there is no group. -/
def busOf (s : State) (g : Option Seg) : Int :=
  match g with
  | none => 0
  | some g => (s.floorBus.entry g).toInt

/-- The stream of a booth, as its latest frame time left it (R148; log entry 37); 0 for none. -/
def streamOf (s : State) (b : Option BoothId) : Int :=
  match b with
  | none => 0
  | some b => (s.booth b).stream.toInt

/-- The result of a channel before saturation (R158, R159). `s` holds the floor buses of the same frame. -/
def channelResult (s : State) (c : ChanId) : Int :=
  match (s.channel c).owner with
  | none => 0
  | some n =>
    roundOff
      (s.streamOf (s.channel c).boothInput * (s.gain (channelBoothPoint c)).applied +
        s.busOf (some n.group) * (s.gain (channelFloorPoint c)).applied)

/-- The result of a desk feed before saturation (R158, R159). -/
def deskResult (s : State) (b : BoothId) (d : DeskNo) : Int :=
  roundOff
    (s.busOf (s.boothGroup b) * (s.gain (deskFloorPoint b d)).applied +
      s.streamOf ((s.booth b).desk d).relay * (s.gain (deskRelayPoint b d)).applied)

/-! ## Clip counters (R160) -/

/-- An output whose result saturates is counted, and MIX_CLIP posted when its counter leaves 0 (R160). -/
def countClip (s : State) (o : OutId) (x : Int) (group : Option Seg) (subject : Subject) : State :=
  if clipped x then
    let t := { s with clips := s.clips.alter o bump }
    if s.clips.entry o = 0 then t.post .mixClip group subject (some o.val) else t
  else s

/-! ## Outputs (R97, R161) -/

/-- The indication of a desk (R97, section 11.4). DESIGN CHOICE: bits 6 and 7 are 0 (log entry 48). -/
def indication (s : State) (b : BoothId) (d : DeskNo) : Byte :=
  let r := s.booth b
  let k := r.desk d
  BitVec.ofNat 8
    ((if r.live = some d then 1 else 0) + 2 * outputCode k.selected + 4 * (r.role k.selected).code + 16 * k.feed.code)

/-- The downstream booth frame (section 11.4). -/
def downstream (s : State) (b : BoothId) : List Byte :=
  allDesks.flatMap fun d => putSample (toSample (s.deskResult b d)) ++ [s.indication b d]

/-- What a frame sends; `s` holds its floor buses and gains. -/
def formOut (s : State) : FrameOut :=
  { channels := Vector.tabulate fun c => toSample (s.channelResult c)
    feeds := s.floorBus
    desks := Vector.tabulate fun k => toSample (s.deskResult (boothOfDesk k) (deskOfDesk k))
    booths := Vector.tabulate fun b => s.downstream b }

/-! ## Frames (R148, R150) -/

/-- Step 3 of R148: every floor bus is formed and counted, in ascending number. -/
def formBuses (s : State) (up : Uplink) : State :=
  let t := { s with floorBus := Vector.tabulate fun g => toSample (s.busResult up g) }
  allSegs.foldl (fun t g => t.countClip (busOut g) (s.busResult up g) (some g) .none) t

/-- Steps 4 and 5 of R148: every channel and desk feed is formed, counted in ascending output number and sent (log entry 28). -/
def formOutputs (s : State) : State :=
  let t := { s with frameOut := some s.formOut }
  let t := allChannels.foldl (fun t c => t.countClip (channelOut c) (s.channelResult c) none (.channel c)) t
  allBooths.foldl
    (fun t b =>
      allDesks.foldl (fun t d => t.countClip (deskOut (deskIndex b d)) (s.deskResult b d) none (.desk b d)) t)
    t

/-- A frame of the mix in the CLOCKED state (R148). -/
def frame (s : State) (up : Uplink) : State := (((s.countDrops up).rampAll).formBuses up).formOutputs

/-- The first frame after a loss or a hard reset: the applied gains become 0, the state CLOCKED, CLOCK_RESTORED (R150). -/
def restoreClock (s : State) : State :=
  ({ s.clearAllApplied with clocked := true }).post .clockRestored none .none none

end State

/-- WORD_CLOCK_FRAME (R148, R150). -/
def execWordClockFrame (uplink : Vector (Option Sample) 32) (s : State) : Result :=
  .next ((if s.clocked then s else s.restoreClock).frame uplink)

/-- CLOCK_LOST (R149): nothing while UNCLOCKED (log entry 33). -/
def execClockLost (s : State) : Result :=
  .next (if s.clocked then ({ s with clocked := false, frameOut := none }).post .clockLost none .none none else s)

/-! ## The fader (R162) -/

def ruleSetGroupFader (port : PortId) (params : List Byte) (s : State) : Rule :=
  match params with
  | [g, x] => do
    s.notFenced port
    let g ← s.namedGroup g.toNat
    s.hasChair port g
    return { state := (s.setGroup g fun r => { r with fader := levelOf x }).finish, data := putLevel (levelOf x) }
  | _ => .error .badParam

/-- SET_GROUP_FADER (R162). -/
def execSetGroupFader (port : PortId) (params : List Byte) (s : State) : Result :=
  .next (s.take port (ruleSetGroupFader port params))

/-! ## Reading the mix (R163) -/

/-- Of up to 12 outputs from `o` on, those that exist. -/
def clipRange (o : OutId) : List OutId := ((List.finRange 76).drop o.val).take 12

/-- The clock state, by R147's order. -/
def clockCode (clocked : Bool) : Nat := if clocked then 0 else 1

def ruleReadMixStatus (params : List Byte) (s : State) : Rule :=
  match params with
  | [o, c] => do
    let o ← need (item? 76 o.toNat) .badParam
    let c ← need (flag? c) .badParam
    let t := if c then { s with clips := (clipRange o).foldl (fun v k => v.put k 0) s.clips } else s
    return { state := t
             data := put8 (clockCode s.clocked) ++ put8 o.val ++ (clipRange o).flatMap fun k => put16 (s.clips.entry k) }
  | _ => .error .badParam

/-- READ_MIX_STATUS (R163): served to every port. -/
def execReadMixStatus (port : PortId) (params : List Byte) (s : State) : Result :=
  .next (s.take port (ruleReadMixStatus params))

def ruleReadGainPoint (params : List Byte) (s : State) : Rule :=
  match params with
  | [p] => do
    let p ← need (item? 168 p.toNat) .noSuch
    return { state := s, data := put8 p.val ++ put24 (s.gain p).target ++ put24 (s.gain p).applied }
  | _ => .error .badParam

/-- READ_GAIN_POINT (R163): served to every port. -/
def execReadGainPoint (port : PortId) (params : List Byte) (s : State) : Result :=
  .next (s.take port (ruleReadGainPoint params))

end Sys2Proof.Machine
end

