-- ==== Sys2Proof/Machine/Ports.lean ====
section
/-! DEFINITION. The Port Unit: designations, presence, fences, notices, frame states, PORT_RESET (chapters 10 and 11), and hard reset. -/

namespace Sys2Proof.Machine

/-! ## Designations (R167) -/

/-- The checks of the designation commands up to the port number: fence, authority, port (R167). -/
def designationChecks (s : State) (port : PortId) (q : Byte) : Except ResultCode PortId := do
  s.notFenced port
  s.isSupervisor port
  need (item? 4 q.toNat) .noSuch

def ruleSetSupervisor (port : PortId) (params : List Byte) (s : State) : Rule :=
  match params with
  | [q] => do
    let q ← designationChecks s port q
    refuseIf (!s.qualifies q) .wrongState
    return { state := s.withAuthority fun t => { t with supervisor := q } }
  | _ => .error .badParam

/-- SET_SUPERVISOR (R167). -/
def execSetSupervisor (port : PortId) (params : List Byte) (s : State) : Result :=
  .next (s.take port (ruleSetSupervisor port params))

def ruleSetInterpPort (port : PortId) (params : List Byte) (s : State) : Rule :=
  match params with
  | [q] => do
    let q ← designationChecks s port q
    return { state := s.withAuthority fun t => { t with interpPort := q } }
  | _ => .error .badParam

/-- SET_INTERP_PORT (R167). -/
def execSetInterpPort (port : PortId) (params : List Byte) (s : State) : Result :=
  .next (s.take port (ruleSetInterpPort port params))

def ruleSetHomePort (port : PortId) (params : List Byte) (s : State) : Rule :=
  match params with
  | [x, q] => do
    let q ← designationChecks s port q
    let x ← need (item? 8 x.toNat) .badParam
    return { state := s.withAuthority fun t => { t with homePort := t.homePort.put x q } }
  | _ => .error .badParam

/-- SET_HOME_PORT (R167). -/
def execSetHomePort (port : PortId) (params : List Byte) (s : State) : Result :=
  .next (s.take port (ruleSetHomePort port params))

/-! ## Presence (R170, R171) -/

/-- A presence timeout is stored and acts on the timer at once (R171). -/
def Port.storeTimeout (n : Nat) (r : Port) : Port :=
  { r with
    timeout := n
    timer := if n = 0 then none else if r.present && r.attention then some (n * Config.second) else r.timer }

def ruleSetPresenceTimeout (port : PortId) (params : List Byte) (s : State) : Rule :=
  match params with
  | [q, n] => do
    s.notFenced port
    refuseIf (s.supervisor != port && decide (q.toNat ≠ port.val)) .notAuthority
    let q ← need (item? 4 q.toNat) .noSuch
    refuseIf (decide (60 < n.toNat)) .badParam
    return { state := s.setPort q (Port.storeTimeout n.toNat) }
  | _ => .error .badParam

/-- SET_PRESENCE_TIMEOUT (R171). -/
def execSetPresenceTimeout (port : PortId) (params : List Byte) (s : State) : Result :=
  .next (s.take port (ruleSetPresenceTimeout port params))

/-- A port becomes ABSENT: PORT_ABSENT to the other three ports, then the authorities (R170). -/
def State.fallAbsent (s : State) (p : PortId) : State :=
  s.withAuthority fun t =>
    (t.setPort p fun r => { r with present := false, timer := none }).postTo (fun q => q != p)
      ⟨.portAbsent, none, .port p, none⟩

/-- A running presence timer expires (R170). The monitor cannot make a port with the empty subscription ABSENT (R179): there the timer
stops, and that is all (log entry 41). -/
def State.expirePresence (s : State) (p : PortId) : State :=
  if (s.port p).subscription = 0 then s.setPort p fun r => { r with timer := none } else s.fallAbsent p

/-- PRESENCE_TIMER_EXPIRY (R170, R179): acts where the timer runs (log entries 5 and 33). -/
def execPresenceTimerExpiry (p : PortId) (s : State) : Result :=
  .next (if (s.port p).timer.isSome then s.expirePresence p else s)

/-! ## Fences (R172) -/

/-- A change of fence: PORT_FENCE, then the authorities (R172). A fence already as set changes nothing. -/
def State.setFence (s : State) (q : PortId) (on : Bool) : State :=
  if (s.port q).fenced = on then s
  else
    s.withAuthority fun t =>
      (t.setPort q fun r => { r with fenced := on }).post .portFence none (.port q) (some (if on then 1 else 0))

def ruleSetPortFence (port : PortId) (params : List Byte) (s : State) : Rule :=
  match params with
  | [q] => do
    let q ← designationChecks s port q
    refuseIf (q == s.supervisor) .badParam
    return { state := s.setFence q true }
  | _ => .error .badParam

/-- SET_PORT_FENCE (R172). -/
def execSetPortFence (port : PortId) (params : List Byte) (s : State) : Result :=
  .next (s.take port (ruleSetPortFence port params))

def ruleClearPortFence (port : PortId) (params : List Byte) (s : State) : Rule :=
  match params with
  | [q] => do
    let q ← designationChecks s port q
    return { state := s.setFence q false }
  | _ => .error .badParam

/-- CLEAR_PORT_FENCE (R172). -/
def execClearPortFence (port : PortId) (params : List Byte) (s : State) : Result :=
  .next (s.take port (ruleClearPortFence port params))

/-! ## Notices (R179, R180) -/

def ruleSetSubscription (port : PortId) (params : List Byte) (s : State) : Rule :=
  match params with
  | [m] => .ok { state := s.setPort port fun r => { r with subscription := m }, data := [m] }
  | _ => .error .badParam

/-- SET_SUBSCRIPTION (R179). A running presence timer runs on (R170), also for the empty set, under which it makes no port ABSENT (log entry
41). -/
def execSetSubscription (port : PortId) (params : List Byte) (s : State) : Result :=
  .next (s.take port (ruleSetSubscription port params))

namespace Port

/-- The notices a READ_NOTICES removes: the oldest, as many as the smallest of the count, 3 and the number queued (R180). -/
def oldest (r : Port) (count : Nat) : List Notice := r.queue.take (min count 3)

/-- The presence timer after a READ_NOTICES that leaves `rest` (R170, R180). -/
def timerAfterRead (r : Port) (removed rest : List Notice) : Option Nat :=
  if rest.isEmpty then none
  else if removed.isEmpty then r.timer
  else if r.timeout = 0 then none
  else some (r.timeout * Config.second)

/-- The port context after a READ_NOTICES (R180). -/
def readNotices (count : Nat) (r : Port) : Port :=
  let rest := r.queue.drop (min count 3)
  { r with queue := rest, overflow := 0, timer := r.timerAfterRead (r.oldest count) rest }

end Port

def ruleReadNotices (port : PortId) (params : List Byte) (s : State) : Rule :=
  match params with
  | [n] => do
    refuseIf (n == 0) .badParam
    let out := (s.port port).oldest n.toNat
    return { state := s.setPort port (Port.readNotices n.toNat)
             data := put8 (s.port port).overflow ++ put8 out.length ++ out.flatMap Notice.bytes }
  | _ => .error .badParam

/-- READ_NOTICES (R180). -/
def execReadNotices (port : PortId) (params : List Byte) (s : State) : Result :=
  .next (s.take port (ruleReadNotices port params))

/-! ## Port reset (R176) -/

/-- Steps 1 and 2 of R176, and the stopped timer of step 3. -/
def Port.clearContext (r : Port) : Port :=
  { r with
    queue := [], overflow := 0, snapshot := none, cursor := none, changes := 0, shortFrames := 0, timer := none }

/-- PORT_RESET (R176). The return to presence comes after the queue has been emptied; a frame refused for its length returns to presence
first, as every other (R166). -/
def execPortReset (port : PortId) (params : List Byte) (s : State) : Result :=
  .next <|
    if params = [] then
      if (s.port port).frame = .receiving then
        ((s.setPort port Port.clearContext).returnToPresence port).respond port .ok []
      else s
    else s.take port fun _ => .error .badParam

/-! ## Frame states (R165, R166) -/

/-- UNKNOWN_COMMAND (R166, check 2). -/
def execUnknownCommand (port : PortId) (_code : Byte) (_params : List Byte) (s : State) : Result :=
  .next (s.take port fun _ => .error .unknownCommand)

/-- LENGTH_ABOVE_30 (R165, R166, check 1). -/
def execLengthAbove30 (port : PortId) (_code _length : Byte) (s : State) : Result :=
  .next (s.take port fun _ => .error .badParam)

/-- FRAME_DISCARDED (R165): select rises in RECEIVING, and the bytes stored are discarded. -/
def execFrameDiscarded (port : PortId) (s : State) : Result :=
  .next (if (s.port port).frame = .receiving then
    s.setPort port fun r => { r with frame := .idle, stored := [], shortFrames := bump r.shortFrames } else s)

/-- SELECT_FALLS (R165): select falls in IDLE, and the next byte is the first of a frame. -/
def execSelectFalls (port : PortId) (s : State) : Result :=
  .next (if (s.port port).frame = .idle then s.setPort port fun r => { r with frame := .receiving, stored := [] } else s)

/-- TRANSACTION_END (R165): select rises in RESPONDING; what is left of the response is lost. -/
def execTransactionEnd (port : PortId) (s : State) : Result :=
  .next (if (s.port port).frame = .responding then
    s.setPort port fun r => { r with frame := .idle, stored := [], response := [], dataOut := none } else s)

end Sys2Proof.Machine
end

