-- ==== Sys2Proof/Machine/ProfileStore.lean ====
section
/-! DEFINITION. The Profile Store's commands and the consequences of a change (chapter 2). -/

namespace Sys2Proof.Machine

/-- The value of a field, as its code or number (R181). -/
def Field.value (r : Profile) : Field → Nat
  | .floorMode => r.floorMode.code
  | .maxOpen => r.maxOpen
  | .speakLimit => r.speakLimit
  | .limitAction => r.limitAction.code
  | .warnLead => r.warnLead
  | .priorityMode => r.priorityMode.code
  | .nomEnable => if r.nomEnable then 1 else 0
  | .underLevel => r.underLevel
  | .regroupPolicy => r.regroupPolicy.code

/-- A field as response bytes: two for speak_limit, one for every other, the fewest its range needs (R181). -/
def Field.bytes (r : Profile) : Field → List Byte
  | .speakLimit => put16 r.speakLimit
  | f => put8 (f.value r)

/-- The nine fields as response bytes, in the order of R19. -/
def Profile.bytes (r : Profile) : List Byte := fields.flatMap (Field.bytes r)

/-- The set of the fields in which two records differ, bit n for field n of R19 (section 11.3). -/
def fieldSet (old new : Profile) : Nat :=
  (fields.zipIdx.map fun f => if f.1.value old = f.1.value new then 0 else 2 ^ f.2).sum

namespace State

/-- The groups whose effective parameters differ from those of `old`, ascending (R22). -/
def reparametered (old s : State) : List Seg := s.applied.anchors.filter fun g => decide (old.params g ≠ s.params g)

/-- The report of a changed group: PARAMS_CHANGED with the set of fields, and its change flag (R22, stage 2). -/
def reportParams (old s : State) (g : Seg) : State :=
  (s.post .paramsChanged (some g) .none (some (fieldSet (old.params g) (s.params g)))).flagChange g

/-- The consequence of a changed max_open (R25, R26). -/
def onMaxOpen (was now : Profile) (s : State) (g : Seg) : State :=
  if now.maxOpen < was.maxOpen then s.returnExcess g else if was.maxOpen < now.maxOpen then s.promote g else s

/-- The consequence of a changed priority_mode while a key is held (R28). -/
def onPriorityMode (was now : Profile) (s : State) (g : Seg) : State :=
  if was.priorityMode = now.priorityMode ∨ (s.group g).hold = 0 then s
  else
    match now.priorityMode with
    | .cancelAll => s.post .priorityMuteOff (some g) .none none
    | .muteWhileHeld => s.post .priorityMuteOn (some g) .none none

/-- The consequence of a regroup_policy that became AUTO in a group held open (R31). -/
def onRegroupPolicy (was now : Profile) (s : State) (g : Seg) : State :=
  if was.regroupPolicy = .armed ∧ now.regroupPolicy = .auto ∧ s.affected g ∧ (s.group g).session = .opened then s.reexamine
  else s

/-- The consequences of one group's change, in the order of R25 to R31 (R22, stage 3). A changed floor_mode changes nothing now
(R27), the mix targets follow at the end of the event (R29), and the fields of speaking time are read later (R30). -/
def consequences (was : Seg → Profile) (now : Seg → Profile) (s : State) (g : Seg) : State :=
  let s := s.onMaxOpen (was g) (now g) g
  let s := s.onPriorityMode (was g) (now g) g
  s.onRegroupPolicy (was g) (now g) g

/-- One write or selection change: `s` is the state derived, `old` the state before (R22). DESIGN CHOICE: where a consequence of one group
applies a topology (R31), those of the later groups run on the records that then stand at their anchors (log entry 43). -/
def rederive (old s : State) : State :=
  let gs := reparametered old s
  gs.foldl (consequences old.params s.params) (gs.foldl (reportParams old) s)

end State

def ruleSetProfileSelect (port : PortId) (params : List Byte) (s : State) : Rule :=
  match params with
  | [x, p] => do
    s.notFenced port
    s.isSupervisor port
    let x ← need (item? 8 x.toNat) .badParam
    let p ← need (choice? profileIds p.toNat) .badParam
    if s.select.entry x = p then return { state := s }
    return { state := (State.rederive s { s with select := s.select.put x p }).finish }
  | _ => .error .badParam

/-- SET_PROFILE_SELECT (R20). -/
def execSetProfileSelect (port : PortId) (params : List Byte) (s : State) : Result :=
  .next (s.take port (ruleSetProfileSelect port params))

def ruleSetLoadSelect (port : PortId) (params : List Byte) (s : State) : Rule :=
  match params with
  | [p] => do
    let p ← need (choice? profileIds p.toNat) .badParam
    return { state := s.setPort port fun r => { r with load := p }, data := put8 p.code }
  | _ => .error .badParam

/-- SET_LOAD_SELECT (R23). -/
def execSetLoadSelect (port : PortId) (params : List Byte) (s : State) : Result :=
  .next (s.take port (ruleSetLoadSelect port params))

def ruleWriteProfileField (port : PortId) (params : List Byte) (s : State) : Rule :=
  match params with
  | [f, hi, lo] => do
    s.notFenced port
    s.isSupervisor port
    let f ← need (choice? fields f.toNat) .badParam
    let p := (s.port port).load
    let r ← need ((s.profile p).write f (u16 hi lo)) .badParam
    let data := put8 (fields.idxOf f) ++ put16 (f.value r)
    if s.profile p = r then return { state := s, data := data }
    return { state := (State.rederive s (s.setProfile p r)).finish, data := data }
  | _ => .error .badParam

/-- WRITE_PROFILE_FIELD (R24). DESIGN CHOICE: the response gives the value stored in the two bytes of the parameter (log entry 44). -/
def execWriteProfileField (port : PortId) (params : List Byte) (s : State) : Result :=
  .next (s.take port (ruleWriteProfileField port params))

def ruleReadProfile (port : PortId) (params : List Byte) (s : State) : Rule :=
  match params with
  | [p] => do
    let p ← need (choice? profileIds p.toNat) .badParam
    let segments := segSet fun x => s.select.entry x == p
    return { state := s, data := (s.profile p).bytes ++ [segments] ++ put8 (s.port port).load.code }
  | _ => .error .badParam

/-- READ_PROFILE (R32). -/
def execReadProfile (port : PortId) (params : List Byte) (s : State) : Result :=
  .next (s.take port (ruleReadProfile port params))

end Sys2Proof.Machine
end

