-- ==== Sys2Proof/Machine/Records.lean ====
section
/-! DEFINITION. The record tables and the record cursor (R173), and the two reads of the Port Unit (R174, R175). -/

namespace Sys2Proof.Machine

/-! ## Records (R17, R32, R55, R112, R127, R162, R168) -/

/-- The presence, by R164's order. -/
def presenceCode (present : Bool) : Nat := if present then 0 else 1

/-- A SEATS record: the fields of R40 in its order (R55). -/
def seatRecord (s : State) (i : SeatId) : List Byte :=
  let q := s.seat i
  put8 (lineOf i).val ++ put8 (addressOf i) ++ putOpt (q.segment.map Fin.val) ++ putTrim q.trim ++ putFlag q.mask ++
    put8 q.kind.code ++ put8 q.link.code ++ put8 q.missed ++ put8 (if q.keyHeld then 1 else 0) ++ put8 q.floor.code ++
    putOpt (q.slot.map Fin.val) ++ putStamp q.requestStamp ++ putStamp q.grantStamp ++ put8 q.light.code

/-- A GROUPS record: anchor, members, effective parameters, language codes, fader, chair authority (R17, R32, R127, R162, R168). -/
def groupRecord (s : State) (g : Seg) : List Byte :=
  put8 g.val ++ [segSet fun x => s.applied.entry x == g] ++ (s.params g).bytes ++
    (s.slotLangs g).flatMap (fun l => put8 l.val) ++ putLevel (s.group g).fader ++ put8 (s.chairAuth g).val

/-- A desk in a BOOTHS record: the fields of R93 in its order. -/
def deskRecord (r : Booth) (d : DeskNo) : List Byte :=
  put8 (if r.live = some d then 1 else 0) ++ put8 (outputCode (r.desk d).selected) ++
    putOpt ((r.desk d).relay.map Fin.val) ++ put8 (r.desk d).feed.code

/-- A BOOTHS record: the fields of R92 and, for each desk, of R93 (R112). -/
def boothRecord (s : State) (b : BoothId) : List Byte :=
  let r := s.booth b
  putOpt (r.home.map Fin.val) ++ putOpt (r.langA.map Fin.val) ++ putOpt (r.langB.map Fin.val) ++ put8 r.mode.code ++
    put8 (if r.online then 1 else 0) ++ put8 r.roleA.code ++ put8 r.roleB.code ++ putOpt (r.live.map Fin.val) ++
    put16 r.run ++ put16 r.lostFrames ++ put16 r.badCrc ++ allDesks.flatMap (deskRecord r)

/-- A CHANNELS record: state, owner, level, content (R127). -/
def channelRecord (s : State) (c : ChanId) : List Byte :=
  let r := s.channel c
  put8 (if r.owner.isSome then 1 else 0) ++ putOpt (r.owner.map (·.group.val)) ++
    putOpt (r.owner.map (·.language.val)) ++ putLevel r.level ++ [r.content.byte]

/-- The remaining settle time in tenths of a second, rounded up; 0 when SETTLED or STOPPED (R17). -/
def remainingTenths (r : Wall) : Nat :=
  if r.status = .settling then (r.settle * Config.halfSecond - r.stable + 99) / 100 else 0

/-- The ends of a wall in a record: both bytes 255 when UNASSIGNED. -/
def putEnds : Option (Seg × Seg) → List Byte
  | none => put8 255 ++ put8 255
  | some e => put8 e.1.val ++ put8 e.2.val

/-- A WALLS record (R17). -/
def wallRecord (s : State) (w : WallId) : List Byte :=
  let r := s.wall w
  putEnds r.ends ++ put8 r.settle ++ put8 r.override.code ++ put8 r.resolved.code ++ put8 r.status.code ++
    put8 (remainingTenths r) ++ put8 r.effective.code

/-- A table as the list of its records (R173). -/
def tableRecords (s : State) : RecordTable → List (List Byte)
  | .seats => allSeats.map (seatRecord s)
  | .groups => s.applied.anchors.map (groupRecord s)
  | .booths => allBooths.map (boothRecord s)
  | .channels => allChannels.map (channelRecord s)
  | .walls => allWalls.map (wallRecord s)

/-- The end of a table (R173). -/
def tableEnd (s : State) : RecordTable → Nat
  | .seats => 256
  | .groups => s.applied.anchors.length
  | .booths => 12
  | .channels => 32
  | .walls => 10

/-- The most records one READ_NEXT returns (R173). -/
def recordsPerRead : RecordTable → Nat
  | .seats => 1
  | .groups => 1
  | .booths => 1
  | .channels => 5
  | .walls => 3

/-! ## The cursor (R173) -/

def ruleSelectRecord (port : PortId) (params : List Byte) (s : State) : Rule :=
  match params with
  | [t, n] => do
    let t ← need (choice? recordTables t.toNat) .badParam
    let n := min n.toNat (tableEnd s t)
    return { state := s.setPort port fun r => { r with cursor := some ⟨t, n⟩ }, data := put8 n }
  | _ => .error .badParam

/-- SELECT_RECORD (R173). -/
def execSelectRecord (port : PortId) (params : List Byte) (s : State) : Result :=
  .next (s.take port (ruleSelectRecord port params))

/-- The records a READ_NEXT returns from a cursor (R173). -/
def nextRecords (s : State) (c : Cursor) (count : Nat) : List (List Byte) :=
  ((tableRecords s c.table).drop c.index).take (min count (recordsPerRead c.table))

/-- The response of READ_NEXT: table, index of the first record (absent for none), number of records, records (R173). -/
def recordBytes (c : Cursor) (records : List (List Byte)) : List Byte :=
  put8 c.table.code ++ putOpt (if records.isEmpty then none else some c.index) ++ put8 records.length ++ records.flatten

def ruleReadNext (port : PortId) (params : List Byte) (s : State) : Rule :=
  match params with
  | [n] => do
    refuseIf (n == 0) .badParam
    let c ← need (s.port port).cursor .wrongState
    let records := nextRecords s c n.toNat
    return { state := s.setPort port fun r => { r with cursor := some { c with index := c.index + records.length } }
             data := recordBytes c records }
  | _ => .error .badParam

/-- READ_NEXT (R173). -/
def execReadNext (port : PortId) (params : List Byte) (s : State) : Result :=
  .next (s.take port (ruleReadNext port params))

/-! ## READ_STATUS and READ_PORTS (R174, R175) -/

/-- The proposed anchor of each segment, in PENDING and HELD only (R17, R174; log entry 20). -/
def proposedBytes (s : State) : List Byte :=
  if s.regroup = .inStep then [] else allSegs.flatMap fun x => put8 (s.proposed.entry x).val

/-- The response of READ_STATUS (R174). -/
def statusBytes (s : State) (p : PortId) : List Byte :=
  put8 s.regroup.code ++ proposedBytes s ++ allLines.flatMap (fun l => put8 (s.line l).state.code) ++
    allPorts.flatMap (fun q => put8 (presenceCode (s.port q).present) ++ putFlag (s.port q).fenced) ++
    put8 s.supervisor.val ++ put8 s.interpPort.val ++ put8 p.val ++ put16 (s.port p).shortFrames ++ [(s.port p).changes]

def ruleReadStatus (port : PortId) (params : List Byte) (s : State) : Rule :=
  match params with
  | [] => .ok { state := s.setPort port fun r => { r with changes := 0 }, data := statusBytes s port }
  | _ => .error .badParam

/-- READ_STATUS (R174). -/
def execReadStatus (port : PortId) (params : List Byte) (s : State) : Result :=
  .next (s.take port (ruleReadStatus port params))

/-- The response of READ_PORTS (R175). -/
def portsBytes (s : State) : List Byte :=
  put8 s.supervisor.val ++ put8 s.interpPort.val ++ allSegs.flatMap (fun x => put8 (s.homePort.entry x).val) ++
    put8 s.interpAuth.val ++
    allPorts.flatMap fun q =>
      put8 (presenceCode (s.port q).present) ++ putFlag (s.port q).fenced ++ put8 (s.port q).timeout ++
        [(s.port q).subscription]

def ruleReadPorts (params : List Byte) (s : State) : Rule :=
  match params with
  | [] => .ok { state := s, data := portsBytes s }
  | _ => .error .badParam

/-- READ_PORTS (R175). -/
def execReadPorts (port : PortId) (params : List Byte) (s : State) : Result :=
  .next (s.take port (ruleReadPorts params))

end Sys2Proof.Machine
end

