-- ==== Sys2Proof/Machine/Topology.lean ====
section
/-! DEFINITION. The Topology Unit's commands and events (chapter 1). -/

namespace Sys2Proof.Machine

/-! ## Contacts and the settle timer (R2 to R5) -/

/-- The resolved state by the two contacts (R2). -/
def resolve (openMade closedMade : Bool) : Resolved :=
  match openMade, closedMade with
  | true, false => .opened
  | false, true => .closed
  | false, false => .moving
  | true, true => .fault

/-- The settle status that a resolved state just entered starts (R3). -/
def settleStart (r : Resolved) : SettleStatus :=
  match r with
  | .opened => .settling
  | .closed => .settling
  | .moving => .stopped
  | .fault => .stopped

/-- A contact change of a wall: the resolved state is formed again; where it changes, the settle status and the stable time are
set anew, and WALL_FAULT is posted on entering FAULT (R2, R3, R5). -/
def State.changeContacts (s : State) (w : WallId) (openMade closedMade : Bool) : State :=
  let r := resolve openMade closedMade
  let t := s.setWall w fun c => { c with openContact := openMade, closedContact := closedMade }
  if (s.wall w).resolved = r then t
  else
    let t := t.setWall w fun c => { c with resolved := r, status := settleStart r, stable := 0 }
    if r = .fault then t.post .wallFault none (.wall w) none else t

/-- CONTACT_CHANGE (R2). -/
def execContactChange (w : WallId) (openMade closedMade : Bool) (s : State) : Result :=
  .next (s.changeContacts w openMade closedMade).finish

/-- SETTLE_TIMER_EXPIRY (R4). The timer of a wall runs while its status is SETTLING; at another time nothing happens (log entries
5 and 33). -/
def execSettleTimerExpiry (w : WallId) (s : State) : Result :=
  .next (if (s.wall w).status = .settling then (s.expireSettle w).finish else s)

/-! ## Wall configuration (R6 to R9) -/

/-- The effective state that an override forces (R6). -/
def Override.forced : Override → Option WallPos
  | .follow => none
  | .forceOpen => some .opened
  | .forceClosed => some .closed

/-- An override other than the stored one is stored and acts (R6, R7). -/
def State.storeOverride (s : State) (w : WallId) (o : Override) : State :=
  let t := s.setWall w fun c => { c with override := o }
  match o.forced with
  | some e => t.setEffective w e
  | none => if (s.wall w).status = .settled then t.followSensors w else t

def ruleSetWallOverride (port : PortId) (params : List Byte) (s : State) : Rule :=
  match params with
  | [w, o] => do
    s.notFenced port
    s.isSupervisor port
    let w ← need (item? 10 w.toNat) .noSuch
    let o ← need (choice? overrides o.toNat) .badParam
    if (s.wall w).override = o then return { state := s }
    return { state := (s.storeOverride w o).finish }
  | _ => .error .badParam

/-- SET_WALL_OVERRIDE (R6). -/
def execSetWallOverride (port : PortId) (params : List Byte) (s : State) : Result :=
  .next (s.take port (ruleSetWallOverride port params))

/-- A settle time is stored and acts on the settle timer at once (R8). DESIGN CHOICE: a timer that expires at once leaves the stable time
at the new settle time, as R3 gives for SETTLED, although R8 keeps the stable time gathered (log entry 46). -/
def State.storeSettle (s : State) (w : WallId) (n : Nat) : State :=
  let t := s.setWall w fun c => { c with settle := n }
  match (s.wall w).status with
  | .settling => if n * Config.halfSecond ≤ (s.wall w).stable then t.expireSettle w else t
  | .settled => t.setWall w fun c => { c with stable := n * Config.halfSecond }
  | .stopped => t

def ruleSetWallSettle (port : PortId) (params : List Byte) (s : State) : Rule :=
  match params with
  | [w, n] => do
    s.notFenced port
    s.isSupervisor port
    let w ← need (item? 10 w.toNat) .noSuch
    return { state := (s.storeSettle w (settleOf n)).finish, data := put8 (settleOf n) }
  | _ => .error .badParam

/-- SET_WALL_SETTLE (R8). -/
def execSetWallSettle (port : PortId) (params : List Byte) (s : State) : Result :=
  .next (s.take port (ruleSetWallSettle port params))

/-- The ends that the last two parameters of SET_WALL_ENDS name, the lower segment first, or UNASSIGNED for 255 as the first end; none
where they are refused (R9, R181). -/
def wallEnds? (x y : Byte) : Option (Option (Seg × Seg)) :=
  if x = 255 then some none
  else
    match item? 8 x.toNat, item? 8 y.toNat with
    | some a, some b => if a = b then none else some (some (min a b, max a b))
    | _, _ => none

def ruleSetWallEnds (port : PortId) (params : List Byte) (s : State) : Rule :=
  match params with
  | [w, x, y] => do
    s.notFenced port
    s.isSupervisor port
    let w ← need (item? 10 w.toNat) .noSuch
    let ends ← need (wallEnds? x y) .badParam
    refuseIf ((s.wall w).effective == .opened) .inUse
    if (s.wall w).ends = ends then return { state := s }
    return { state := (s.setWall w fun c => { c with ends := ends }).evaluate.finish }
  | _ => .error .badParam

/-- SET_WALL_ENDS (R9). -/
def execSetWallEnds (port : PortId) (params : List Byte) (s : State) : Result :=
  .next (s.take port (ruleSetWallEnds port params))

/-! ## Confirm and cancel (R15, R16) -/

/-- The supervisor port, or the chair authority of a group affected at this moment (R15, R16). -/
def State.mayRegroup (s : State) (p : PortId) : Bool :=
  s.supervisor == p || allSegs.any fun g => s.affected g && s.chairAuth g == p

def ruleConfirmRegroup (port : PortId) (params : List Byte) (s : State) : Rule :=
  match params with
  | [] => do
    s.notFenced port
    refuseIf (s.regroup == .inStep) .wrongState
    refuseIf (!s.mayRegroup port) .notAuthority
    return { state := s.applyTopology.finish }
  | _ => .error .badParam

/-- CONFIRM_REGROUP (R15). -/
def execConfirmRegroup (port : PortId) (params : List Byte) (s : State) : Result :=
  .next (s.take port (ruleConfirmRegroup port params))

def ruleCancelRegroup (port : PortId) (params : List Byte) (s : State) : Rule :=
  match params with
  | [] => do
    s.notFenced port
    refuseIf (s.regroup != .pending) .wrongState
    refuseIf (!s.mayRegroup port) .notAuthority
    return { state := (({ s with regroup := .held }).post .topologyHeld none .none none).finish }
  | _ => .error .badParam

/-- CANCEL_REGROUP (R16). -/
def execCancelRegroup (port : PortId) (params : List Byte) (s : State) : Result :=
  .next (s.take port (ruleCancelRegroup port params))

end Sys2Proof.Machine
end

