-- ==== Sys2Proof/Machine/Reset.lean ====
section
/-! DEFINITION. Hard reset as an event (R18, R56, R113, R128, R147, R177), and the tick of the part's own time base. -/

namespace Sys2Proof.Machine

/-- A wall record after hard reset, resolved from the contacts as they stand (R1, R18). -/
def Wall.atReset (r : Wall) : Wall :=
  let x := resolve r.openContact r.closedContact
  { Wall.reset with
    openContact := r.openContact, closedContact := r.closedContact, resolved := x, status := settleStart x }

namespace State

/-- The part after hard reset with the wall contacts as they stand, before the fault notices. The commands and the bytes that
wait are the outside's and stay (log entry 22). -/
def cleared (s : State) : State :=
  { State.reset with walls := s.walls.mapEntries fun _ r => r.atReset, pending := s.pending, clocks := s.clocks }

/-- WALL_FAULT for each wall resolved FAULT (R18), in ascending wall number (log entry 39). -/
def postFaults (s : State) : State :=
  allWalls.foldl (fun t w => if (t.wall w).resolved = .fault then t.post .wallFault none (.wall w) none else t) s

end State

/-- HARD_RESET (R18). -/
def execHardReset (s : State) : Result := .next s.cleared.postFaults

/-! ## The tick (log entry 4) -/

/-- One millisecond of a wall: the stable time grows while SETTLING, up to the settle time (R3). -/
def Wall.tick (r : Wall) : Wall :=
  if r.status = .settling then { r with stable := min (r.stable + 1) (r.settle * Config.halfSecond) } else r

/-- One millisecond of a port: a running presence timer counts down (R170). -/
def Port.tick (r : Port) : Port := { r with timer := r.timer.map fun n => n - 1 }

/-- One millisecond of the part's own time base passes with no command and no byte waiting. -/
def State.tick (s : State) : State :=
  { s with walls := s.walls.mapEntries fun _ r => r.tick, ports := s.ports.mapEntries fun _ r => r.tick }

end Sys2Proof.Machine
end

