-- ==== Sys2Proof/Machine/SpeakingTime.lean ====
section
/-! DEFINITION. The speaking clock, EXTEND_TIME and the time snapshots (chapter 5). -/

namespace Sys2Proof.Machine

/-- SPEAKING_CLOCK_EXPIRY (R83): every speaker that is OPEN now and not paused is counted and judged. -/
def execSpeakingClockExpiry (s : State) : Result :=
  .next (s.timedSpeakers.foldl (fun t gi => t.visitTimer gi.1 gi.2) s).finish

/-! ## EXTEND_TIME (R88) -/

/-- The phase of an extended timer by its new remaining time and the warning lead (R88). -/
def extendedPhase (p : Phase) (left lead : Nat) : Phase :=
  match p with
  | .untimed => .untimed
  | .running => .running
  | .warned => if lead < left then .running else .warned
  | .overrun => if lead < left then .running else if left = 0 then .overrun else .warned

/-- The timer with `n` seconds added to its limit (R87, R88). -/
def Timer.extend (t : Timer) (n lead : Nat) : Timer :=
  let limit := min (t.limit + n) Config.counterTop
  { t with limit := limit, phase := extendedPhase t.phase (limit - t.elapsed) lead }

/-- A speaker's time is extended: the timer, the light where the phase returns to RUNNING, TIME_EXTENDED (R88). -/
def State.extendTime (s : State) (g : Seg) (i : SeatId) (t : Timer) (n : Nat) : State :=
  let u := t.extend n (s.params g).warnLead
  let s := s.setSeat i fun q => { q with timer := some u }
  let s := if t.phase ≠ .running ∧ u.phase = .running then s.setLight i .opened else s
  s.post .timeExtended (some g) (.seat i) (some u.limit)

/-- The timer of an OPEN delegate that is timed (R88, check 5). -/
def State.timed (s : State) (i : SeatId) : Option Timer :=
  if (s.seat i).floor = .opened ∧ (s.seat i).kind = .delegate then
    (s.seat i).timer.filter fun t => decide (t.phase ≠ .untimed)
  else none

def ruleExtendTime (port : PortId) (params : List Byte) (s : State) : Rule :=
  match params with
  | [hi, lo, nhi, nlo] => do
    s.notFenced port
    let i ← need (item? 256 (u16 hi lo)) .noSuch
    let g ← need (s.groupOf i) .noSuch
    s.hasChair port g
    let n := u16 nhi nlo
    refuseIf (n == 0 || decide (3600 < n)) .badParam
    let t ← need (s.timed i) .wrongState
    let u := t.extend n (s.params g).warnLead
    return { state := (s.extendTime g i t n).finish, data := put16 i.val ++ put16 u.limit ++ put16 (u.limit - u.elapsed) }
  | _ => .error .badParam

/-- EXTEND_TIME (R88). -/
def execExtendTime (port : PortId) (params : List Byte) (s : State) : Result :=
  .next (s.take port (ruleExtendTime port params))

/-! ## Snapshots (R89 to R91) -/

namespace State

/-- The snapshot entry of an OPEN delegate (R89, R90). -/
def snapshotEntry (s : State) (i : SeatId) : Option SnapshotEntry :=
  (s.seat i).timer.map fun t => { seat := i, elapsed := t.elapsed, remaining := t.remaining }

/-- The snapshot of a group's timers as they stand (R90). -/
def latch (s : State) (g : Seg) : Snapshot :=
  { anchor := g, entries := (s.openDelegates g).filterMap s.snapshotEntry, returned := 0 }

end State

def ruleLatchTimes (port : PortId) (params : List Byte) (s : State) : Rule :=
  match params with
  | [g] => do
    let g ← s.namedGroup g.toNat
    if (s.port port).snapshot.isSome then return { state := s, code := .latchHeld }
    return { state := s.setPort port fun r => { r with snapshot := some (s.latch g) }
             data := put8 (s.latch g).entries.length }
  | _ => .error .badParam

/-- LATCH_TIMES (R90): served to every port. -/
def execLatchTimes (port : PortId) (params : List Byte) (s : State) : Result :=
  .next (s.take port (ruleLatchTimes port params))

/-- A snapshot entry in a response; the remaining time of an UNTIMED speaker has a free code (log entry 19). -/
def SnapshotEntry.bytes (e : SnapshotEntry) : List Byte :=
  put16 e.seat.val ++ put16 e.elapsed ++ put16 (e.remaining.getD Config.untimedCode.toNat)

namespace Snapshot

/-- The entries a READ_TIMES returns: up to four not yet returned (R91). -/
def next (r : Snapshot) : List SnapshotEntry := (r.entries.drop r.returned).take 4

/-- The response of READ_TIMES; the position is absent where no entry is returned (R91; log entry 20). -/
def bytes (r : Snapshot) : List Byte :=
  putFlag true ++ put8 r.anchor.val ++ put8 r.entries.length ++
    putOpt (if r.next.isEmpty then none else some (r.returned + 1)) ++ r.next.flatMap SnapshotEntry.bytes

/-- What remains of a snapshot after a READ_TIMES: absent once the last entry is returned (R91). -/
def after (r : Snapshot) : Option Snapshot :=
  let n := r.returned + r.next.length
  if r.entries.length ≤ n then none else some { r with returned := n }

end Snapshot

def ruleReadTimes (port : PortId) (params : List Byte) (s : State) : Rule :=
  match params with
  | [] =>
    match (s.port port).snapshot with
    | none => .ok { state := s, data := putFlag false ++ putOpt none ++ put8 0 ++ putOpt none }
    | some r => .ok { state := s.setPort port fun c => { c with snapshot := r.after }, data := r.bytes }
  | _ => .error .badParam

/-- READ_TIMES (R91): served to every port. -/
def execReadTimes (port : PortId) (params : List Byte) (s : State) : Result :=
  .next (s.take port (ruleReadTimes port params))

end Sys2Proof.Machine
end

