-- ==== Sys2Proof/Machine/Dispatch.lean ====
section
/-! DEFINITION. Every command and event of the opcode table to its meaning. -/

namespace Sys2Proof.Machine

def exec (i : Instr) (s : State) : Host.Outcome State Fault Refusal :=
  match i with
  | .setWallEnds port params => Sys2Proof.Machine.execSetWallEnds port params s
  | .setWallOverride port params => Sys2Proof.Machine.execSetWallOverride port params s
  | .setWallSettle port params => Sys2Proof.Machine.execSetWallSettle port params s
  | .confirmRegroup port params => Sys2Proof.Machine.execConfirmRegroup port params s
  | .cancelRegroup port params => Sys2Proof.Machine.execCancelRegroup port params s
  | .setProfileSelect port params => Sys2Proof.Machine.execSetProfileSelect port params s
  | .setLoadSelect port params => Sys2Proof.Machine.execSetLoadSelect port params s
  | .writeProfileField port params => Sys2Proof.Machine.execWriteProfileField port params s
  | .readProfile port params => Sys2Proof.Machine.execReadProfile port params s
  | .enumerateLine port params => Sys2Proof.Machine.execEnumerateLine port params s
  | .cancelLineOperation port params => Sys2Proof.Machine.execCancelLineOperation port params s
  | .setSeatSegment port params => Sys2Proof.Machine.execSetSeatSegment port params s
  | .setSeatTrim port params => Sys2Proof.Machine.execSetSeatTrim port params s
  | .setSeatMask port params => Sys2Proof.Machine.execSetSeatMask port params s
  | .readLineStatus port params => Sys2Proof.Machine.execReadLineStatus port params s
  | .openSession port params => Sys2Proof.Machine.execOpenSession port params s
  | .closeSession port params => Sys2Proof.Machine.execCloseSession port params s
  | .grantNext port params => Sys2Proof.Machine.execGrantNext port params s
  | .grantSeat port params => Sys2Proof.Machine.execGrantSeat port params s
  | .closeSeat port params => Sys2Proof.Machine.execCloseSeat port params s
  | .cancelRequest port params => Sys2Proof.Machine.execCancelRequest port params s
  | .closeAll port params => Sys2Proof.Machine.execCloseAll port params s
  | .clearList port params => Sys2Proof.Machine.execClearList port params s
  | .readFloor port params => Sys2Proof.Machine.execReadFloor port params s
  | .extendTime port params => Sys2Proof.Machine.execExtendTime port params s
  | .latchTimes port params => Sys2Proof.Machine.execLatchTimes port params s
  | .readTimes port params => Sys2Proof.Machine.execReadTimes port params s
  | .setBoothHome port params => Sys2Proof.Machine.execSetBoothHome port params s
  | .setBoothOutputs port params => Sys2Proof.Machine.execSetBoothOutputs port params s
  | .setBoothMode port params => Sys2Proof.Machine.execSetBoothMode port params s
  | .setDeskRelay port params => Sys2Proof.Machine.execSetDeskRelay port params s
  | .readBoothStatus port params => Sys2Proof.Machine.execReadBoothStatus port params s
  | .addLanguage port params => Sys2Proof.Machine.execAddLanguage port params s
  | .removeLanguage port params => Sys2Proof.Machine.execRemoveLanguage port params s
  | .setChannelLevel port params => Sys2Proof.Machine.execSetChannelLevel port params s
  | .readLanguages port params => Sys2Proof.Machine.execReadLanguages port params s
  | .setGroupFader port params => Sys2Proof.Machine.execSetGroupFader port params s
  | .readMixStatus port params => Sys2Proof.Machine.execReadMixStatus port params s
  | .readGainPoint port params => Sys2Proof.Machine.execReadGainPoint port params s
  | .setSupervisor port params => Sys2Proof.Machine.execSetSupervisor port params s
  | .setInterpPort port params => Sys2Proof.Machine.execSetInterpPort port params s
  | .setHomePort port params => Sys2Proof.Machine.execSetHomePort port params s
  | .setPresenceTimeout port params => Sys2Proof.Machine.execSetPresenceTimeout port params s
  | .setPortFence port params => Sys2Proof.Machine.execSetPortFence port params s
  | .clearPortFence port params => Sys2Proof.Machine.execClearPortFence port params s
  | .selectRecord port params => Sys2Proof.Machine.execSelectRecord port params s
  | .readNext port params => Sys2Proof.Machine.execReadNext port params s
  | .readStatus port params => Sys2Proof.Machine.execReadStatus port params s
  | .readPorts port params => Sys2Proof.Machine.execReadPorts port params s
  | .portReset port params => Sys2Proof.Machine.execPortReset port params s
  | .setSubscription port params => Sys2Proof.Machine.execSetSubscription port params s
  | .readNotices port params => Sys2Proof.Machine.execReadNotices port params s
  | .unknownCommand port code params => Sys2Proof.Machine.execUnknownCommand port code params s
  | .lengthAbove30 port code length => Sys2Proof.Machine.execLengthAbove30 port code length s
  | .frameDiscarded port => Sys2Proof.Machine.execFrameDiscarded port s
  | .hardReset => Sys2Proof.Machine.execHardReset s
  | .contactChange wall openMade closedMade => Sys2Proof.Machine.execContactChange wall openMade closedMade s
  | .settleTimerExpiry wall => Sys2Proof.Machine.execSettleTimerExpiry wall s
  | .addressingAcknowledge line address chainEnd => Sys2Proof.Machine.execAddressingAcknowledge line address chainEnd s
  | .stepTimeout line => Sys2Proof.Machine.execStepTimeout line s
  | .seatReply line reply => Sys2Proof.Machine.execSeatReply line reply s
  | .replyWindowExpiry line => Sys2Proof.Machine.execReplyWindowExpiry line s
  | .speakingClockExpiry => Sys2Proof.Machine.execSpeakingClockExpiry s
  | .wordClockFrame uplink => Sys2Proof.Machine.execWordClockFrame uplink s
  | .clockLost => Sys2Proof.Machine.execClockLost s
  | .boothFrame booth frame => Sys2Proof.Machine.execBoothFrame booth frame s
  | .boothOffline booth => Sys2Proof.Machine.execBoothOffline booth s
  | .micKey booth desk => Sys2Proof.Machine.execMicKey booth desk s
  | .outputSelect booth desk output => Sys2Proof.Machine.execOutputSelect booth desk output s
  | .relaySelect booth desk source => Sys2Proof.Machine.execRelaySelect booth desk source s
  | .presenceTimerExpiry port => Sys2Proof.Machine.execPresenceTimerExpiry port s
  | .selectFalls port => Sys2Proof.Machine.execSelectFalls port s
  | .transactionEnd port => Sys2Proof.Machine.execTransactionEnd port s
  | .deskEventDiscarded booth event => Sys2Proof.Machine.execDeskEventDiscarded booth event s

end Sys2Proof.Machine
end

