-- ==== Sys2Proof/Machine/Bytes.lean ====
section
/-! DEFINITION. The bytes of a transaction (R165): a byte clocked on a port is stored in the frame or shifts the response out. -/

namespace Sys2Proof.Machine

/-- The next byte of the response goes out, and 0 once the response has been sent whole (R165). -/
def Port.shiftOut (r : Port) : Port := { r with response := r.response.tail, dataOut := some (r.response.headD 0) }

namespace State

/-- A byte completes in RECEIVING: it is stored, and the frame that it completes is taken as the command it spells (R165, section 11.4). -/
def receiveByte (s : State) (p : PortId) (b : Byte) : Result :=
  let t := s.setPort p fun r => { r with stored := r.stored ++ [b] }
  match decodeFrame p (t.port p).stored with
  | none => .next t
  | some i => exec i t

/-- A byte is clocked on a port, by its frame state (R165). With select high nothing is clocked in. -/
def clockByte (s : State) (p : PortId) (b : Byte) : Result :=
  match (s.port p).frame with
  | .idle => .next s
  | .receiving => s.receiveByte p b
  | .responding => .next (s.setPort p Port.shiftOut)

/-- What happens with no command waiting. DESIGN CHOICE: the byte that waits longest is clocked (log entry 45), and where none waits one
millisecond passes (log entry 4). -/
def idle (s : State) : Result :=
  match s.clocks with
  | [] => .next s.tick
  | (p, b) :: rest => clockByte { s with clocks := rest } p b

end State

end Sys2Proof.Machine
end

