-- ==== Sys2Proof/Machine/Step.lean ====
section
/-! DEFINITION. One step: the command at the front of the queue, or a byte or a tick on an empty queue. -/

namespace Sys2Proof.Machine

/-- The command at the front of the queue is taken with the rest of the queue waiting; on an empty queue a waiting byte is clocked or
one millisecond passes (log entries 4, 24 and 45). -/
def step (s : State) : Host.Outcome State Fault Refusal :=
  match s.pending with
  | [] => s.idle
  | c :: rest => exec c { s with pending := rest }

/-- The command that a word spells, put at the front of the queue; the table spells no command (log entry 24). -/
def State.withFetchWord (s : State) (nbits w : Nat) : State :=
  match Sys2Proof.decodeTableWord nbits w with
  | some c => { s with pending := c :: s.pending }
  | none => s

end Sys2Proof.Machine
end

