-- ==== Sys2Proof/Safety.lean ====
section
/-! DEFINITION. What the statements speak of: what a port command needs, what every step must keep, and the frames. -/

namespace Sys2Proof

/-- A command of a control port: the port, its parameter bytes, the parameter count of section 11.5, and whether the fence is its first
check (R166, R172: a command that changes state outside its port's own context and is no read). -/
structure Taken where
  port : PortId
  params : List Byte
  count : Nat
  fenceFirst : Bool
  deriving DecidableEq, Repr

/-- The commands of section 11.5. -/
def Instr.command : Instr → Option Taken
  | .setWallEnds port params => some ⟨port, params, 3, true⟩
  | .setWallOverride port params => some ⟨port, params, 2, true⟩
  | .setWallSettle port params => some ⟨port, params, 2, true⟩
  | .confirmRegroup port params => some ⟨port, params, 0, true⟩
  | .cancelRegroup port params => some ⟨port, params, 0, true⟩
  | .setProfileSelect port params => some ⟨port, params, 2, true⟩
  | .setLoadSelect port params => some ⟨port, params, 1, false⟩
  | .writeProfileField port params => some ⟨port, params, 3, true⟩
  | .readProfile port params => some ⟨port, params, 1, false⟩
  | .enumerateLine port params => some ⟨port, params, 3, true⟩
  | .cancelLineOperation port params => some ⟨port, params, 2, true⟩
  | .setSeatSegment port params => some ⟨port, params, 3, true⟩
  | .setSeatTrim port params => some ⟨port, params, 3, true⟩
  | .setSeatMask port params => some ⟨port, params, 3, true⟩
  | .readLineStatus port params => some ⟨port, params, 2, false⟩
  | .openSession port params => some ⟨port, params, 1, true⟩
  | .closeSession port params => some ⟨port, params, 1, true⟩
  | .grantNext port params => some ⟨port, params, 1, true⟩
  | .grantSeat port params => some ⟨port, params, 3, true⟩
  | .closeSeat port params => some ⟨port, params, 3, true⟩
  | .cancelRequest port params => some ⟨port, params, 3, true⟩
  | .closeAll port params => some ⟨port, params, 1, true⟩
  | .clearList port params => some ⟨port, params, 1, true⟩
  | .readFloor port params => some ⟨port, params, 3, false⟩
  | .extendTime port params => some ⟨port, params, 4, true⟩
  | .latchTimes port params => some ⟨port, params, 1, false⟩
  | .readTimes port params => some ⟨port, params, 0, false⟩
  | .setBoothHome port params => some ⟨port, params, 2, true⟩
  | .setBoothOutputs port params => some ⟨port, params, 3, true⟩
  | .setBoothMode port params => some ⟨port, params, 2, true⟩
  | .setDeskRelay port params => some ⟨port, params, 3, true⟩
  | .readBoothStatus port params => some ⟨port, params, 2, false⟩
  | .addLanguage port params => some ⟨port, params, 2, true⟩
  | .removeLanguage port params => some ⟨port, params, 2, true⟩
  | .setChannelLevel port params => some ⟨port, params, 2, true⟩
  | .readLanguages port params => some ⟨port, params, 2, false⟩
  | .setGroupFader port params => some ⟨port, params, 2, true⟩
  | .readMixStatus port params => some ⟨port, params, 2, false⟩
  | .readGainPoint port params => some ⟨port, params, 1, false⟩
  | .setSupervisor port params => some ⟨port, params, 1, true⟩
  | .setInterpPort port params => some ⟨port, params, 1, true⟩
  | .setHomePort port params => some ⟨port, params, 2, true⟩
  | .setPresenceTimeout port params => some ⟨port, params, 2, true⟩
  | .setPortFence port params => some ⟨port, params, 1, true⟩
  | .clearPortFence port params => some ⟨port, params, 1, true⟩
  | .selectRecord port params => some ⟨port, params, 2, false⟩
  | .readNext port params => some ⟨port, params, 1, false⟩
  | .readStatus port params => some ⟨port, params, 0, false⟩
  | .readPorts port params => some ⟨port, params, 0, false⟩
  | .portReset port params => some ⟨port, params, 0, false⟩
  | .setSubscription port params => some ⟨port, params, 1, false⟩
  | .readNotices port params => some ⟨port, params, 1, false⟩
  | .unknownCommand _ _ _ => none
  | .lengthAbove30 _ _ _ => none
  | .frameDiscarded _ => none
  | .hardReset => none
  | .contactChange _ _ _ => none
  | .settleTimerExpiry _ => none
  | .addressingAcknowledge _ _ _ => none
  | .stepTimeout _ => none
  | .seatReply _ _ => none
  | .replyWindowExpiry _ => none
  | .speakingClockExpiry => none
  | .wordClockFrame _ => none
  | .clockLost => none
  | .boothFrame _ _ => none
  | .boothOffline _ => none
  | .micKey _ _ => none
  | .outputSelect _ _ _ => none
  | .relaySelect _ _ _ => none
  | .presenceTimerExpiry _ => none
  | .selectFalls _ => none
  | .transactionEnd _ => none
  | .deskEventDiscarded _ _ => none

/-- The port on which a frame is taken: the commands of section 11.5, and the two refused frames of R165 and R166. -/
def Instr.framePort (i : Instr) : Option PortId :=
  match i with
  | .unknownCommand port _ _ => some port
  | .lengthAbove30 port _ _ => some port
  | i => i.command.map Taken.port

namespace Machine

/-! ## Parameter bytes -/

/-- An item number as a parameter byte. -/
def num {n : Nat} (k : Fin n) : Byte := BitVec.ofNat 8 k.val

/-! ## What a command needs -/

namespace State

/-- A command frame is in progress on the port and the port is PRESENT, so that its next command is judged by its own rule (R166). -/
abbrev Ready (s : State) (p : PortId) : Prop := (s.port p).frame = .receiving ∧ (s.port p).present = true

/-- Ready, and not fenced (R172). -/
abbrev Unfenced (s : State) (p : PortId) : Prop := s.Ready p ∧ (s.port p).fenced = false

/-- Ready, not fenced, and the supervisor. -/
abbrev Chief (s : State) (p : PortId) : Prop := s.Unfenced p ∧ s.supervisor = p

/-- Ready, not fenced, and holding the interpretation authority (R168). -/
abbrev Interp (s : State) (p : PortId) : Prop := s.Unfenced p ∧ s.interpAuth = p

/-- Ready, not fenced, and holding the chair authority of the group of anchor `g` (R66, R168). -/
abbrev Chairs (s : State) (p : PortId) (g : Seg) : Prop := s.Unfenced p ∧ s.applied.isAnchor g = true ∧ s.chairAuth g = p

/-- No exhaustion is left standing without a seat WAITING or OPEN (R61). -/
def Settled (s : State) : Prop := s.exhausted = true → s.floorInUse = true

end State

/-- The notice catalogue of section 11.3, a row as its table gives it: the bit of the category (R181), the first code, the kinds in code
order. -/
def noticeCatalogue : List (Nat × Nat × List NoticeKind) :=
  [(2, 1, [.wallFault, .wallChanged, .topologyPending, .topologyHeld, .topologyInStep, .groupsChanged]),
    (0, 16, [.paramsChanged, .sessionOpened, .sessionClosed, .requestAdded, .requestWithdrawn, .requestDropped, .listFull, .listCleared,
      .seatGranted, .seatClosed, .seatPreempted, .chairNoSlot, .priorityMuteOn, .priorityMuteOff, .priorityCancel, .stampExhausted,
      .stampRestarted]),
    (1, 40, [.timeWarning, .timeExpired, .timeExtended]),
    (5, 48, [.lineReady, .lineFault, .lineCancelled, .verifyFail, .seatOnline, .seatLost]),
    (3, 64, [.boothOffline, .boothOnline, .deskLive, .deskOff, .deskForcedOff, .deskRefused, .boothRolesChanged, .relayLoop, .deskFeed]),
    (4, 80, [.languageAdded, .languageRemoved, .languageDropped, .channelAllocated, .channelWait, .channelReleased, .channelSource]),
    (6, 96, [.clockLost, .clockRestored, .mixClip]),
    (7, 112, [.authorityChanged, .portAbsent, .portPresent, .portFence])]

/-! ## What a command leaves -/

/-- A port context without what notices and change flags move: timer, queue, overflow count, change set. -/
def Port.kept (r : Port) : Port := { r with timer := none, queue := [], overflow := 0, changes := 0 }

namespace State

/-- No port context changes but in its timer, queue, overflow count and change set. -/
def KeepsPorts (s t : State) : Prop := ∀ q, (t.port q).kept = (s.port q).kept

/-- Every target is formed from the owners' state and no applied gain moves (R152). -/
def Retargeted (s t : State) : Prop := ∀ k, (t.gain k).applied = (s.gain k).applied ∧ (t.gain k).target = t.targetOf k

end State

/-- A seat without what the Floor Controller keeps of it. -/
def Seat.frame (q : Seat) : Seat :=
  { q with floor := .idle, slot := none, requestStamp := none, grantStamp := none, light := .off, speaker := none, timer := none }

/-- A group record without its lists. -/
def Group.frame (r : Group) : Group := { r with waiting := [], openSet := [] }

/-- A line record without its slots. -/
def Line.frame (r : Line) : Line := { r with slots := Line.reset.slots }

namespace State

/-- The state without what a floor operation may change: the slots of the lines, the floor fields of the seats, the lists and sets, the
stamp counter, the downlink, the notices of the ports. Operations with equal frames leave everything else as it was. -/
def floorFrame (s : State) : State :=
  { s with
    lines := s.lines.mapEntries fun _ r => r.frame
    seats := s.seats.mapEntries fun _ q => q.frame
    groups := s.groups.mapEntries fun _ r => r.frame
    stamp := 0
    downlink := State.reset.downlink
    ports := s.ports.mapEntries fun _ r => r.kept }

/-- Beside what line and floor operations may change, nothing differs: the group records differ in lists, sets and hold counts only, and
no seat changes its segment, trim or mask. -/
def KeepsBesideLines (s t : State) : Prop :=
  s.KeepsPorts t ∧ (∀ g, { t.group g with waiting := [], openSet := [], hold := 0 } =
      { s.group g with waiting := [], openSet := [], hold := 0 }) ∧
    (∀ i, (t.seat i).segment = (s.seat i).segment ∧ (t.seat i).trim = (s.seat i).trim ∧ (t.seat i).mask = (s.seat i).mask) ∧
    { t with
      lines := s.lines, seats := s.seats, groups := s.groups, stamp := s.stamp, downlink := s.downlink, gains := s.gains
      ports := s.ports } = s

/-- Beside what a change of booths may change, nothing differs: the channels differ in content and booth input only. -/
def KeepsBesideBooths (s t : State) : Prop :=
  s.KeepsPorts t ∧ (∀ c, { t.channel c with content := .silent, boothInput := none } =
      { s.channel c with content := .silent, boothInput := none }) ∧
    { t with booths := s.booths, channels := s.channels, gains := s.gains, stamp := s.stamp, ports := s.ports } = s

/-- Beside what an application of a topology may change, nothing differs. -/
def KeepsBesideRegroup (s t : State) : Prop :=
  s.KeepsPorts t ∧ (∀ l, { t.line l with slots := (s.line l).slots } = s.line l) ∧
    (∀ i, (t.seat i).segment = (s.seat i).segment ∧ (t.seat i).trim = (s.seat i).trim ∧ (t.seat i).mask = (s.seat i).mask ∧
      (t.seat i).kind = (s.seat i).kind ∧ (t.seat i).link = (s.seat i).link ∧ (t.seat i).missed = (s.seat i).missed ∧
      (t.seat i).keyHeld = (s.seat i).keyHeld) ∧
    { t with
      applied := s.applied, proposed := s.proposed, regroup := s.regroup, lines := s.lines, seats := s.seats
      downlink := s.downlink, groups := s.groups, stamp := s.stamp, booths := s.booths, channels := s.channels
      waitQueue := s.waitQueue, gains := s.gains, floorBus := s.floorBus, ports := s.ports } = s

/-! ## What a grant, a close and a withdrawal leave -/

/-- `u` is `s` after a grant of seat `i` in group `g` with slot `k` (R62, steps 1, 2, 3 and 5), before its event ends. -/
def Granted (s : State) (g : Seg) (i : SeatId) (k : SlotNo) (u : State) : Prop :=
  u.seat i =
      { s.seat i with
        floor := .opened, grantStamp := some s.stamp, slot := some k, light := .opened, speaker := none
        timer :=
          if (s.seat i).kind = .delegate then
            some { limit := (s.params g).speakLimit, elapsed := 0
                   phase := if (s.params g).speakLimit = 0 then .untimed else .running }
          else (s.seat i).timer } ∧
    (∀ j, j ≠ i → u.seat j = s.seat j) ∧
    u.group g = { s.group g with waiting := (s.group g).waiting.filter (· != i), openSet := (s.group g).openSet ++ [i] } ∧
    (∀ g', g' ≠ g → u.group g' = s.group g') ∧
    u.line (lineOf i) = { s.line (lineOf i) with slots := (s.line (lineOf i)).slots.put k (some i) } ∧
    (∀ l, l ≠ lineOf i → u.line l = s.line l) ∧
    u.stamp = s.stamp + 1 ∧
    u.downlink =
      (if s.reachable i then
        s.downlink.alter (lineOf i) fun sent =>
          sent ++ [⟨addressOf i, .micOn k⟩, ⟨addressOf i, .light .opened⟩, ⟨addressOf i, .speaker none⟩]
      else s.downlink) ∧
    u.ports =
      (State.post (if s.stamp + 1 = 4294967295 then s.post .stampExhausted none .none none else s)
        .seatGranted (some g) (.seat i) (some k.val)).ports ∧
    { u with
      seats := s.seats, groups := s.groups, lines := s.lines, stamp := s.stamp, downlink := s.downlink
      ports := s.ports } = s

/-- `u` is `s` after steps 1 to 5 of a close of seat `i` of group `g` (R64), its slot not yet offered. -/
def Closed (s : State) (g : Seg) (i : SeatId) (cause : CloseCause) (u : State) : Prop :=
  u.seat i =
      { s.seat i with
        floor := .idle, requestStamp := none, grantStamp := none, slot := none, light := .off, speaker := s.groupOf i
        timer := none } ∧
    (∀ j, j ≠ i → u.seat j = s.seat j) ∧
    u.group g = { s.group g with openSet := (s.group g).openSet.filter (· != i) } ∧
    (∀ g', g' ≠ g → u.group g' = s.group g') ∧
    (∀ l k, (u.line l).slots.entry k =
      if l = lineOf i ∧ (s.seat i).slot = some k then none else (s.line l).slots.entry k) ∧
    (∀ l, { u.line l with slots := (s.line l).slots } = s.line l) ∧
    u.downlink =
      (if s.reachable i then
        s.downlink.alter (lineOf i) fun sent =>
          sent ++ [⟨addressOf i, .micOff⟩, ⟨addressOf i, .light .off⟩, ⟨addressOf i, .speaker (s.groupOf i)⟩]
      else s.downlink) ∧
    u.ports = (s.post .seatClosed (some g) (.seat i) (some cause.code)).ports ∧
    { u with seats := s.seats, groups := s.groups, lines := s.lines, downlink := s.downlink, ports := s.ports } = s

/-- `u` is `s` after steps 1 to 4 of the return of seat `i` to the waiting list of group `g` (R25), its slot not yet offered. -/
def Returned (s : State) (g : Seg) (i : SeatId) (u : State) : Prop :=
  u.seat i =
      { s.seat i with
        floor := .waiting, grantStamp := none, slot := none, light := .request, speaker := s.groupOf i, timer := none } ∧
    (∀ j, j ≠ i → u.seat j = s.seat j) ∧
    (∃ before after, (s.group g).waiting = before ++ after ∧
      (∀ j ∈ before, (s.seat j).requestStamp.getD 0 ≤ (s.seat i).requestStamp.getD 0) ∧
      (∀ j ∈ after.head?, (s.seat i).requestStamp.getD 0 < (s.seat j).requestStamp.getD 0) ∧
      u.group g =
        { s.group g with waiting := before ++ i :: after, openSet := (s.group g).openSet.filter (· != i) }) ∧
    (∀ g', g' ≠ g → u.group g' = s.group g') ∧
    (∀ l k, (u.line l).slots.entry k =
      if l = lineOf i ∧ (s.seat i).slot = some k then none else (s.line l).slots.entry k) ∧
    (∀ l, { u.line l with slots := (s.line l).slots } = s.line l) ∧
    u.downlink =
      (if s.reachable i then
        s.downlink.alter (lineOf i) fun sent =>
          sent ++ [⟨addressOf i, .micOff⟩, ⟨addressOf i, .light .request⟩, ⟨addressOf i, .speaker (s.groupOf i)⟩]
      else s.downlink) ∧
    u.ports = (s.post .seatPreempted (some g) (.seat i) none).ports ∧
    { u with seats := s.seats, groups := s.groups, lines := s.lines, downlink := s.downlink, ports := s.ports } = s

/-- `u` is `s` after a withdrawal of seat `i` of group `g` with its notice (R65). -/
def Withdrawn (s : State) (g : Seg) (i : SeatId) (cause : WithdrawCause) (u : State) : Prop :=
  u.seat i = { s.seat i with floor := .idle, requestStamp := none, light := .off } ∧
    (∀ j, j ≠ i → u.seat j = s.seat j) ∧
    u.group g = { s.group g with waiting := (s.group g).waiting.filter (· != i) } ∧
    (∀ g', g' ≠ g → u.group g' = s.group g') ∧
    u.downlink =
      (if s.reachable i then s.downlink.alter (lineOf i) fun sent => sent ++ [⟨addressOf i, .light .off⟩]
      else s.downlink) ∧
    u.ports = (s.post .requestWithdrawn (some g) (.seat i) (some cause.code)).ports ∧
    { u with seats := s.seats, groups := s.groups, downlink := s.downlink, ports := s.ports } = s

/-- `u` is `s` after the seat took the newest request stamp and joined the tail of the waiting list of group `g` (R60, R71). -/
def Joined (s : State) (g : Seg) (i : SeatId) (u : State) : Prop :=
  u.seat i = { s.seat i with floor := .waiting, requestStamp := some s.stamp, light := .request } ∧
    (∀ j, j ≠ i → u.seat j = s.seat j) ∧
    u.group g = { s.group g with waiting := (s.group g).waiting ++ [i] } ∧
    (∀ g', g' ≠ g → u.group g' = s.group g') ∧
    u.stamp = s.stamp + 1 ∧
    u.downlink =
      (if s.reachable i then s.downlink.alter (lineOf i) fun sent => sent ++ [⟨addressOf i, .light .request⟩]
      else s.downlink) ∧
    u.ports =
      (State.post (if s.stamp + 1 = 4294967295 then s.post .stampExhausted none .none none else s)
        .requestAdded (some g) (.seat i) (some ((s.group g).waiting.length + 1))).ports ∧
    { u with seats := s.seats, groups := s.groups, stamp := s.stamp, downlink := s.downlink, ports := s.ports } = s

/-! ## What every step keeps -/

/-- The supervisor port is never fenced (R168, R172). -/
def SupervisorFree (s : State) : Prop := (s.port s.supervisor).fenced = false

/-- The bounds of R164; the presence timer runs only on a PRESENT port with notices waiting and a timeout that is on, with no more than
that timeout left (R170, R171). -/
def PortsBounded (s : State) : Prop :=
  ∀ p, (s.port p).queue.length ≤ 32 ∧ (s.port p).overflow ≤ 255 ∧ (s.port p).shortFrames ≤ 65535 ∧
    (s.port p).timeout ≤ 60 ∧
    ∀ n ∈ (s.port p).timer,
      (s.port p).present = true ∧ (s.port p).queue ≠ [] ∧ (s.port p).timeout ≠ 0 ∧ n ≤ (s.port p).timeout * Config.second

/-- In RECEIVING the bytes stored are a frame that is not yet complete (R165). -/
def FramesFormed (s : State) : Prop :=
  ∀ p, (s.port p).frame = .receiving →
    match (s.port p).stored with
    | _ :: length :: params => length.toNat ≤ 30 ∧ params.length < length.toNat
    | _ => True

/-- The relay graph of booths contains no cycle (R104). -/
def RelayAcyclic (s : State) : Prop := ∀ b, ¬ Relation.TransGen (fun x y => s.relayEdge x y = true) b b

/-- Every target is what its owners' state gives (R152). -/
def TargetsFormed (s : State) : Prop := ∀ k, (s.gain k).target = s.targetOf k

/-- The roles are those of R101, a LIVE desk is on an ACTIVE output of an ONLINE booth, and every feed status is that of R105. -/
def InterpFormed (s : State) : Prop :=
  ∀ b, (∀ o, (s.booth b).role o = s.roleOf b o) ∧
    (∀ d, (s.booth b).live = some d → (s.booth b).online = true ∧ (s.booth b).role ((s.booth b).desk d).selected = .active) ∧
    ∀ d, ((s.booth b).desk d).feed = s.feedOf b d

end State

/-- A grouping names each group by its lowest segment, and that segment is of the group (R10, R11). -/
abbrev Topology.Canonical (t : Topology) : Prop := ∀ x, t.entry x ≤ x ∧ t.entry (t.entry x) = t.entry x

namespace State

/-- The applied topology is a partition by anchors, the proposed topology is what the effective set gives, and the unit is IN_STEP
exactly while the two are equal (R10, R11, section 1.8). -/
def TopologyFormed (s : State) : Prop :=
  s.applied.Canonical ∧ s.proposed = s.formProposed ∧ (s.regroup = .inStep ↔ s.applied = s.proposed)

end State

/-- The settle status and the stable time agree with the resolved state (R3). -/
def Wall.settleFormed (r : Wall) : Prop :=
  match r.status with
  | .settling => (r.resolved = .opened ∨ r.resolved = .closed) ∧ r.stable ≤ r.settle * 500
  | .settled => (r.resolved = .opened ∨ r.resolved = .closed) ∧ r.stable = r.settle * 500
  | .stopped => (r.resolved = .moving ∨ r.resolved = .fault) ∧ r.stable = 0

/-- The effective state agrees with the override, and under FOLLOW with sensors that have settled (R4, R6, R7). -/
def Wall.effectiveFormed (r : Wall) : Prop :=
  match r.override with
  | .forceOpen => r.effective = .opened
  | .forceClosed => r.effective = .closed
  | .follow => r.status = .settled → (r.resolved = .opened ↔ r.effective = .opened)

namespace State

/-- Every wall record is one that R1 to R9 allow. -/
def WallsFormed (s : State) : Prop :=
  ∀ w, (s.wall w).resolved = resolve (s.wall w).openContact (s.wall w).closedContact ∧
    1 ≤ (s.wall w).settle ∧ (s.wall w).settle ≤ 16 ∧ (∀ e, (s.wall w).ends = some e → e.1 < e.2) ∧
    (s.wall w).settleFormed ∧ (s.wall w).effectiveFormed

/-- The request stamp of a seat that has one, and 0 of a seat that has none. -/
def requestOf (s : State) (i : SeatId) : Nat := (s.seat i).requestStamp.getD 0

/-- The grant stamp of a seat that has one, and 0 of a seat that has none. -/
def grantOf (s : State) (i : SeatId) : Nat := (s.seat i).grantStamp.getD 0

/-- The collections of a group hold exactly its WAITING and its OPEN seats, in strictly ascending stamps, within the 48 of a list and the
maximum of OPEN delegates, and its hold count is the number of its held keys (R57, R58, R59, R75). -/
def CollectionsFormed (s : State) (g : Seg) : Prop :=
  (∀ i, i ∈ (s.group g).waiting ↔ (s.seat i).floor = .waiting ∧ s.groupOf i = some g) ∧
    (∀ i, i ∈ (s.group g).openSet ↔ (s.seat i).floor = .opened ∧ s.groupOf i = some g) ∧
    (s.group g).waiting.Pairwise (fun i j => s.requestOf i < s.requestOf j) ∧ (s.group g).waiting.length ≤ 48 ∧
    (s.group g).openSet.Pairwise (fun i j => s.grantOf i < s.grantOf j) ∧
    (s.openDelegates g).length ≤ (s.params g).maxOpen ∧ (s.group g).hold = s.heldKeys g

/-- The floor fields of a seat's row agree with its floor state, and only a seat that the line hears is WAITING, OPEN or holds its key
(R40, R45, R49, R57, R60, R82). -/
def SeatFormed (s : State) (i : SeatId) : Prop :=
  ((s.seat i).floor ≠ .idle →
      (∃ g, s.groupOf i = some g ∧ (s.group g).session = .opened) ∧ (s.seat i).link = .online ∧
        (s.line (lineOf i)).state = .running) ∧
    ((s.seat i).floor = .idle →
      (s.seat i).requestStamp = none ∧ (s.seat i).grantStamp = none ∧ (s.seat i).slot = none ∧ (s.seat i).timer = none) ∧
    ((s.seat i).floor = .waiting →
      (s.seat i).kind = .delegate ∧ (s.seat i).requestStamp.isSome ∧ (s.seat i).grantStamp = none ∧ (s.seat i).slot = none ∧
        (s.seat i).timer = none) ∧
    ((s.seat i).floor = .opened →
      (s.seat i).grantStamp.isSome ∧ (s.seat i).slot.isSome ∧
        ((s.seat i).kind = .delegate → (s.seat i).requestStamp.isSome ∧ (s.seat i).timer.isSome) ∧
        ((s.seat i).kind = .chair → (s.seat i).requestStamp = none ∧ (s.seat i).timer = none)) ∧
    ((s.seat i).keyHeld = true →
      (s.seat i).kind = .chair ∧ (s.seat i).link = .online ∧ (s.line (lineOf i)).state = .running)

/-- The stamps in use were issued by the one counter: each is below the next to be issued, and no two are equal (R60). -/
def StampsIssued (s : State) : Prop :=
  1 ≤ s.stamp ∧ s.stamp ≤ 4294967295 ∧
    (∀ i n, (s.seat i).requestStamp = some n ∨ (s.seat i).grantStamp = some n → n < s.stamp) ∧
    (∀ i j n, (s.seat i).requestStamp = some n → (s.seat j).requestStamp = some n → i = j) ∧
    (∀ i j n, (s.seat i).grantStamp = some n → (s.seat j).grantStamp = some n → i = j)

/-- Lists, sets, slots, stamps and floor states agree (R49, R57 to R60). -/
def FloorFormed (s : State) : Prop :=
  (∀ g, s.CollectionsFormed g) ∧ (∀ i, s.SeatFormed i) ∧ s.StampsIssued ∧
    ∀ l k i, (s.line l).slots.entry k = some i ↔ lineOf i = l ∧ (s.seat i).floor = .opened ∧ (s.seat i).slot = some k

/-- A language slot exists and its group's session is OPEN (R114, R115). -/
def SlotOpen (s : State) (n : SlotName) : Prop := (s.group n.group).session = .opened ∧ n.language ∈ s.slotLangs n.group

/-- The language lists, the channel table and the wait queue agree: every channel has one owner or is FREE, every slot of an OPEN group
holds one channel or one place in the queue and no other slot does, the queue is non-empty only while no channel is FREE, and each
channel carries what its live outputs give (R114 to R117, R124, R147). -/
def ChannelsFormed (s : State) : Prop :=
  (∀ g, s.applied.isAnchor g = false → (s.group g).session = .closed ∧ (s.group g).langs = []) ∧
    (∀ g, (s.group g).langs.Nodup ∧ 0 ∉ (s.group g).langs ∧ (s.group g).langs.length ≤ 12) ∧
    (∀ c n, (s.channel c).owner = some n → s.SlotOpen n ∧ (∀ c', (s.channel c').owner = some n → c' = c) ∧
      (s.channel c).content = contentFor s.liveOutputs n ∧
      ∀ b, (s.channel c).content = .booth b → (s.channel c).boothInput = some b) ∧
    (∀ c, (s.channel c).owner = none → s.channel c = Channel.free) ∧
    s.waitQueue.Nodup ∧ (∀ n ∈ s.waitQueue, s.SlotOpen n ∧ ∀ c, (s.channel c).owner ≠ some n) ∧
    (∀ n, s.SlotOpen n → (∃ c, (s.channel c).owner = some n) ∨ n ∈ s.waitQueue) ∧
    (s.waitQueue ≠ [] → ∀ c, (s.channel c).owner ≠ none)

end State

end Machine

end Sys2Proof
end

