-- ==== Sys2Proof/Certificates/Slice0/Obligations.lean ====
section
/-! DEFINITION. The statements for the provers. `num k` is the parameter byte of item number k; `u.respond p c data` is state u with the
response of code c and fields data standing ready on port p; `u.finish` is u at the end of its event (R61, R152). -/

open Sys2Proof Sys2Proof.Machine

/-! ## The interface -/

/-- Sections 11.4 and 11.5: a command frame is code, length and parameters. Decoding the frame of a well-formed command gives the command,
and a frame comes from the port of its command. -/
def Obligations.FrameRoundTrip : Prop :=
  (∀ (i : Instr) (p : PortId) (bytes : List Byte),
      i.wellFormed = true → encodeFrame i = some (p, bytes) → decodeFrame p bytes = some i) ∧
    ∀ i : Instr, (encodeFrame i).map Prod.fst = i.framePort

/-- A step takes the command at the front of the queue of waiting commands, with the rest waiting. The queue and its order are the model's
(log entries 24 and 32). With no command waiting the byte that waits longest is clocked on its port (the model's choice, log entry 45),
and with no byte waiting one millisecond passes (the model's choice, log entry 4): the stable time of a SETTLING wall grows up to the
settle time (R3), a running presence timer counts down (R170), and nothing else changes. -/
def Obligations.StepRunsFront : Prop :=
  (∀ (c : Instr) (rest : List Instr) (s : State),
    step { s with pending := c :: rest } = exec c { s with pending := rest }) ∧
    (∀ (s : State) (p : PortId) (b : Byte) (rest : List (PortId × Byte)), s.pending = [] → s.clocks = (p, b) :: rest →
      step s = State.clockByte { s with clocks := rest } p b) ∧
    ∀ s : State, s.pending = [] → s.clocks = [] → ∃ t : State, step s = .next t ∧
      { t with walls := s.walls, ports := s.ports } = s ∧
      (∀ w, t.wall w =
        if (s.wall w).status = .settling then
          { s.wall w with stable := min ((s.wall w).stable + 1) ((s.wall w).settle * 500) }
        else s.wall w) ∧
      ∀ p, t.port p = { s.port p with timer := (s.port p).timer.map (· - 1) }

/-- R1, R10, R18 to R20, R33, R40, R57, R60, R92, R93, R114, R116, R117, R128, R147, R152, R164, R177: the values the spec gives for hard
reset. That no command and no byte waits is the model's choice (log entries 24 and 45). -/
def Obligations.ResetState : Prop :=
  (∀ w, (State.reset.wall w).ends = none ∧ (State.reset.wall w).settle = 4 ∧ (State.reset.wall w).override = .follow ∧
      (State.reset.wall w).effective = .closed) ∧
    (∀ x, State.reset.applied.entry x = x ∧ State.reset.proposed.entry x = x ∧ State.reset.select.entry x = .default ∧
      State.reset.homePort.entry x = 0) ∧
    State.reset.regroup = .inStep ∧
    (∀ p, State.reset.profile p =
      { floorMode := .queue, maxOpen := 4, speakLimit := 0, limitAction := .warn, warnLead := 30,
        priorityMode := .muteWhileHeld, nomEnable := true, underLevel := 24, regroupPolicy := .armed }) ∧
    (∀ l, (State.reset.line l).state = .down ∧ (State.reset.line l).fault = .none ∧ (State.reset.line l).unitCount = 0 ∧
      (State.reset.line l).position = 0 ∧ (State.reset.line l).verifyRound = 0 ∧ (State.reset.line l).verify = false ∧
      (State.reset.line l).badCrc = 0 ∧ (State.reset.line l).audioDrop = 0 ∧
      ∀ k, (State.reset.line l).slots.entry k = none) ∧
    (∀ i, (State.reset.seat i).segment = none ∧ (State.reset.seat i).trim = 0 ∧ (State.reset.seat i).mask = false ∧
      (State.reset.seat i).kind = .delegate ∧ (State.reset.seat i).link = .unused ∧ (State.reset.seat i).missed = 0 ∧
      (State.reset.seat i).keyHeld = false ∧ (State.reset.seat i).floor = .idle ∧ (State.reset.seat i).slot = none ∧
      (State.reset.seat i).requestStamp = none ∧ (State.reset.seat i).grantStamp = none ∧
      (State.reset.seat i).light = .off ∧ (State.reset.seat i).timer = none) ∧
    (∀ g, State.reset.group g =
      { session := .closed, waiting := [], openSet := [], hold := 0, langs := [], fader := .steps 0 }) ∧
    State.reset.stamp = 1 ∧
    (∀ b, (State.reset.booth b).home = none ∧ (State.reset.booth b).langA = none ∧ (State.reset.booth b).langB = none ∧
      (State.reset.booth b).mode = .lockout ∧ (State.reset.booth b).online = false ∧
      (State.reset.booth b).roleA = .unrouted ∧ (State.reset.booth b).roleB = .unrouted ∧
      (State.reset.booth b).live = none ∧ (State.reset.booth b).run = 0 ∧ (State.reset.booth b).lostFrames = 0 ∧
      (State.reset.booth b).badCrc = 0 ∧
      ∀ d, (State.reset.booth b).desk d = { selected := .a, relay := none, feed := .floor }) ∧
    (∀ c, State.reset.channel c = { owner := none, level := .steps 0, content := .silent, boothInput := none }) ∧
    State.reset.waitQueue = [] ∧ State.reset.clocked = false ∧
    (∀ k : PointId, State.reset.gain k = { target := if 96 ≤ k.val ∧ k.val ≤ 131 then 32768 else 0, applied := 0 }) ∧
    (∀ g, State.reset.floorBus.entry g = 0) ∧ (∀ o, State.reset.clips.entry o = 0) ∧
    (∀ p, (State.reset.port p).frame = .idle ∧ (State.reset.port p).present = true ∧ (State.reset.port p).timeout = 0 ∧
      (State.reset.port p).timer = none ∧ (State.reset.port p).fenced = false ∧ (State.reset.port p).subscription = 255 ∧
      (State.reset.port p).load = .default ∧ (State.reset.port p).queue = [] ∧ (State.reset.port p).overflow = 0 ∧
      (State.reset.port p).snapshot = none ∧ (State.reset.port p).cursor = none ∧ (State.reset.port p).changes = 0 ∧
      (State.reset.port p).shortFrames = 0) ∧
    State.reset.supervisor = 0 ∧ State.reset.interpPort = 0 ∧ State.reset.pending = [] ∧ State.reset.clocks = []

/-- R18, R56, R113, R128, R147, R177: hard reset gives the reset state, but for the walls, which resolve from their contacts as they
stand, and for the notice WALL_FAULT of each wall resolved FAULT, which enters every port's emptied queue, in ascending wall number (the
model's choice, log entry 39). The commands and the bytes that wait stay (the model's reading, log entry 22). -/
def Obligations.HardReset : Prop :=
  ∀ s : State, ∃ t : State, exec .hardReset s = .next t ∧
    { t with walls := State.reset.walls, ports := State.reset.ports, pending := State.reset.pending, clocks := [] } =
      State.reset ∧
    t.pending = s.pending ∧ t.clocks = s.clocks ∧
    (∀ w, t.wall w =
      { State.reset.wall w with
        openContact := (s.wall w).openContact
        closedContact := (s.wall w).closedContact
        resolved :=
          match (s.wall w).openContact, (s.wall w).closedContact with
          | true, false => .opened
          | false, true => .closed
          | false, false => .moving
          | true, true => .fault
        status := if (s.wall w).openContact = (s.wall w).closedContact then .stopped else .settling
        stable := 0 }) ∧
    ∀ p, t.port p =
      { State.reset.port p with
        queue := (allWalls.filter fun w => (s.wall w).openContact && (s.wall w).closedContact).map fun w =>
          { kind := .wallFault, group := none, subject := .wall w, value := none } }

/-! ## The frame of a command -/

/-- R165, R166, section 11.4. Select falls in IDLE, rises in RECEIVING (the frame is discarded and counted), rises in RESPONDING (the rest
of the response is lost); in another frame state the event does nothing (the model's reading, log entry 33), and bytes make a command in
RECEIVING only (the model's reading, log entry 2). A response is result code, length and fields, and changes nothing but the frame state
and the response of its port. A frame of unknown code is answered with UNKNOWN_COMMAND and a length above 30 with BAD_PARAM, both without
fields. A byte clocked in RECEIVING is stored: a code alone and a frame with parameters missing are not taken; a length above 30 is taken
at once, a frame with as many parameters as its length is taken as the command of its code, and so the bytes of a well-formed command's
frame, clocked one after the other, end in that command. A byte clocked in RESPONDING shifts out the next byte of the response, and 0 for
every byte after the last, whatever byte is clocked in. The model's choices are these: each byte is one step, and a byte with select high
does nothing (log entry 45); a command row leaves the bytes stored as they are, and TRANSACTION_END empties them (log entry 3); the bytes
of the response that are still to go out stand in the port context, with the byte last shifted out beside them, which TRANSACTION_END
makes absent (log entry 29). -/
def Obligations.Frames : Prop :=
  (∀ (s : State) (p : PortId),
    ((s.port p).frame = .idle →
      exec (.selectFalls p) s = .next (s.setPort p fun r => { r with frame := .receiving, stored := [] })) ∧
    ((s.port p).frame = .receiving →
      exec (.frameDiscarded p) s =
        .next (s.setPort p fun r => { r with frame := .idle, stored := [], shortFrames := min (r.shortFrames + 1) 65535 })) ∧
    ((s.port p).frame = .responding →
      exec (.transactionEnd p) s =
        .next (s.setPort p fun r => { r with frame := .idle, stored := [], response := [], dataOut := none })) ∧
    ((s.port p).frame ≠ .idle → exec (.selectFalls p) s = .next s) ∧
    ((s.port p).frame ≠ .receiving → exec (.frameDiscarded p) s = .next s) ∧
    ((s.port p).frame ≠ .responding → exec (.transactionEnd p) s = .next s)) ∧
    (∀ (i : Instr) (p : PortId) (s : State), i.framePort = some p → (s.port p).frame ≠ .receiving → exec i s = .next s) ∧
    (∀ (s : State) (p : PortId) (c : ResultCode) (data : List Byte),
      (s.respond p c data).port p =
          { s.port p with
            frame := .responding
            response := BitVec.ofNat 8 c.code :: BitVec.ofNat 8 data.length :: data } ∧
        (∀ q, q ≠ p → (s.respond p c data).port q = s.port q) ∧
        { s.respond p c data with ports := s.ports } = s) ∧
    (∀ (s : State) (p : PortId), s.Ready p → ∀ (code length : Byte) (params : List Byte),
      exec (.unknownCommand p code params) s = .next (s.respond p .unknownCommand []) ∧
        exec (.lengthAbove30 p code length) s = .next (s.respond p .badParam [])) ∧
    (∀ (s : State) (p : PortId) (b : Byte),
      let t := s.setPort p fun r => { r with stored := r.stored ++ [b] }
      ((s.port p).frame = .idle → s.clockByte p b = .next s) ∧
      ((s.port p).frame = .receiving →
        ((s.port p).stored = [] → s.clockByte p b = .next t) ∧
        ∀ (code length : Byte) (params : List Byte), (s.port p).stored ++ [b] = code :: length :: params →
          (length.toNat ≤ 30 → params.length < length.toNat → s.clockByte p b = .next t) ∧
          (length.toNat ≤ 30 → params.length = length.toNat → s.clockByte p b = exec (commandOf p code params) t) ∧
          (30 < length.toNat → params = [] → s.clockByte p b = exec (.lengthAbove30 p code length) t)) ∧
      ((s.port p).frame = .responding →
        (∀ (x : Byte) (rest : List Byte), (s.port p).response = x :: rest →
          s.clockByte p b = .next (s.setPort p fun r => { r with response := rest, dataOut := some x })) ∧
        ((s.port p).response = [] → s.clockByte p b = .next (s.setPort p fun r => { r with dataOut := some 0 })))) ∧
    (∀ (i : Instr) (p : PortId) (bytes : List Byte) (s : State), i.wellFormed = true → encodeFrame i = some (p, bytes) →
      s.pending = [] → (s.port p).frame = .receiving → (s.port p).stored = [] → s.clocks = bytes.map (fun b => (p, b)) →
      core.run bytes.length s =
        exec i (State.setPort { s with clocks := [] } p fun r => { r with stored := bytes })) ∧
    ∀ (p : PortId) (b : Byte) (bytes : List Byte) (s : State), s.pending = [] → (s.port p).frame = .responding →
      s.clocks = (b :: bytes).map (fun x => (p, x)) →
      core.run (bytes.length + 1) s =
        .next (State.setPort { s with clocks := [] } p fun r =>
          { r with
            response := r.response.drop (bytes.length + 1)
            dataOut := some (r.response.getD bytes.length 0) })

/-- R166, step 3: a frame whose parameter count differs from the fixed number of section 11.5 is refused with BAD_PARAM; the return to
presence is its only other effect. -/
def Obligations.WrongParameterCount : Prop :=
  ∀ (i : Instr) (c : Taken) (s : State), i.command = some c → (s.port c.port).frame = .receiving →
    c.params.length ≠ c.count → exec i s = .next ((s.returnToPresence c.port).respond c.port .badParam [])

/-- R166, R181: a command refused with any code other than OK and ACCEPTED changes no state (LATCH_HELD changes none either, R90), and a
response holds at most 30 bytes of fields, as long as no group lists more than 12 languages (R114). -/
def Obligations.Responses : Prop :=
  ∀ (i : Instr) (p : PortId) (s : State), i.framePort = some p → s.Ready p →
    ∃ (u : State) (c : ResultCode) (data : List Byte), exec i s = .next (u.respond p c data) ∧
      (c ≠ .ok → c ≠ .accepted → u = s ∧ data = []) ∧ ((∀ g, (s.group g).langs.length ≤ 12) → data.length ≤ 30)

/-- R172: on a fenced port every command that changes state outside the port's own context and is no read is refused with FENCED. On an
unfenced port, NOT_AUTHORITY: to a port that is not the supervisor for the commands of R6, R8, R9, R20, R24, R34, R39, R52 to R54, R107,
R167, R171 (of another port) and R172; to one without the chair authority of the group for those of R66 and R162; to one without the
interpretation authority for those of R109 to R111 and R121; to one that is neither the supervisor nor the interpretation authority for
the roving booths (R108). The group is judged ahead of the chair authority (R66, R162), the authority ahead of the operands of the others:
an item, a seat, a port or a booth past the last is NO_SUCH, a segment that is no anchor and a seat of another group NO_SUCH, a segment, a
choice, a field, a flag or a language outside its range BAD_PARAM. The reads and a port's own context commands are refused for their
operands alone (R23, R32, R55, R81, R90, R112, R127, R163, R173). A code above 63 of REMOVE_LANGUAGE is BAD_PARAM (the model's choice, log
entry 35). -/
def Obligations.CommandsRefused : Prop :=
  (∀ (i : Instr) (c : Taken) (s : State), i.command = some c → c.fenceFirst = true → c.params.length = c.count →
    s.Ready c.port → (s.port c.port).fenced = true → exec i s = .next (s.respond c.port .fenced [])) ∧
  ∀ (s : State) (p : PortId) (a b c d : Byte),
    let refused := fun (is : List Instr) (code : ResultCode) => ∀ i ∈ is, exec i s = .next (s.respond p code [])
    let seat := [Instr.grantSeat p [a, b, c], .closeSeat p [a, b, c], .cancelRequest p [a, b, c]]
    let floor := [Instr.openSession p [a], .closeSession p [a], .grantNext p [a], .closeAll p [a], .clearList p [a],
      .setGroupFader p [a, b]] ++ seat
    let ends := Instr.setWallEnds p [a, b, c]
    let override := Instr.setWallOverride p [a, b]
    let settle := Instr.setWallSettle p [a, b]
    let select := Instr.setProfileSelect p [a, b]
    let write := Instr.writeProfileField p [a, b, c]
    let enumerate := Instr.enumerateLine p [a, b, c]
    let cancel := Instr.cancelLineOperation p [a, b]
    let segment := Instr.setSeatSegment p [a, b, c]
    let trim := Instr.setSeatTrim p [a, b, c]
    let mask := Instr.setSeatMask p [a, b, c]
    let named := [Instr.setSupervisor p [a], .setInterpPort p [a], .setPortFence p [a], .clearPortFence p [a]]
    let homePort := Instr.setHomePort p [a, b]
    let home := Instr.setBoothHome p [a, b]
    let outputs := Instr.setBoothOutputs p [a, b, c]
    let mode := Instr.setBoothMode p [a, b]
    let relay := Instr.setDeskRelay p [a, b, c]
    let languages := [Instr.addLanguage p [a, b], .removeLanguage p [a, b]]
    let level := Instr.setChannelLevel p [a, b]
    let outside := fun (x : Byte) (n : Nat) => n ≤ x.toNat ∧ x ≠ 255
    (s.Unfenced p →
      (s.supervisor ≠ p →
        refused ([ends, override, settle, select, write, enumerate, cancel, segment, trim, mask, homePort] ++ named)
          .notAuthority ∧
        (a.toNat ≠ p.val → refused [.setPresenceTimeout p [a, b]] .notAuthority) ∧
        (a.toNat ≠ 10 → a.toNat ≠ 11 → refused [home] .notAuthority)) ∧
      (s.interpAuth ≠ p →
        refused ([outputs, mode, relay, level] ++ languages) .notAuthority ∧
        (s.supervisor ≠ p → refused [home] .notAuthority)) ∧
      (8 ≤ a.toNat → refused floor .badParam) ∧
      (∀ g : Seg, a = num g →
        (s.applied.entry g ≠ g → refused floor .noSuch) ∧
        (s.applied.entry g = g → s.chairAuth g ≠ p → refused floor .notAuthority) ∧
        (s.applied.entry g = g → s.chairAuth g = p →
          (256 ≤ b.toNat * 256 + c.toNat → refused seat .noSuch) ∧
          ∀ i : SeatId, b.toNat * 256 + c.toNat = i.val → s.groupOf i ≠ some g → refused seat .noSuch)) ∧
      (256 ≤ a.toNat * 256 + b.toNat → refused [.extendTime p [a, b, c, d]] .noSuch) ∧
      (s.supervisor = p ∨ s.interpAuth = p ∧ (a.toNat = 10 ∨ a.toNat = 11) → a.toNat < 12 → outside b 8 →
        refused [home] .badParam)) ∧
    (s.Chief p →
      (10 ≤ a.toNat → refused [ends, override, settle] .noSuch) ∧
      (a.toNat < 10 → 3 ≤ b.toNat → refused [override] .badParam) ∧
      (a.toNat < 10 → b ≠ 255 → 8 ≤ b.toNat ∨ 8 ≤ c.toNat ∨ b = c → refused [ends] .badParam) ∧
      (8 ≤ a.toNat ∨ 3 ≤ b.toNat → refused [select] .badParam) ∧
      (9 ≤ a.toNat → refused [write] .badParam) ∧
      (4 ≤ a.toNat → refused [enumerate, cancel] .noSuch) ∧
      (a.toNat < 4 → 2 ≤ b.toNat → refused [enumerate, cancel] .badParam) ∧
      (a.toNat < 4 → 2 ≤ c.toNat → refused [enumerate] .badParam) ∧
      (256 ≤ a.toNat * 256 + b.toNat → refused [segment, trim, mask] .noSuch) ∧
      (a.toNat * 256 + b.toNat < 256 → outside c 8 → refused [segment] .badParam) ∧
      (a.toNat * 256 + b.toNat < 256 → 2 ≤ c.toNat → refused [mask] .badParam) ∧
      (4 ≤ a.toNat → refused named .noSuch) ∧
      (4 ≤ b.toNat → refused [homePort] .noSuch) ∧
      (b.toNat < 4 → 8 ≤ a.toNat → refused [homePort] .badParam) ∧
      (12 ≤ a.toNat → refused [home] .noSuch)) ∧
    (s.Interp p →
      (12 ≤ a.toNat → refused [outputs, mode, relay] .noSuch) ∧
      (a.toNat < 12 → b = 0 ∨ c = 0 ∨ outside b 64 ∨ outside c 64 ∨ b = c ∧ b ≠ 255 → refused [outputs] .badParam) ∧
      (a.toNat < 12 → 2 ≤ b.toNat → refused [mode] .badParam) ∧
      (a.toNat < 12 → 3 ≤ b.toNat → refused [relay] .noSuch) ∧
      (a.toNat < 12 → b.toNat < 3 → outside c 12 → refused [relay] .badParam) ∧
      (8 ≤ a.toNat → refused languages .badParam) ∧
      (∀ g : Seg, a = num g →
        (s.applied.entry g ≠ g → refused languages .noSuch) ∧
        (s.applied.entry g = g → b = 0 ∨ 64 ≤ b.toNat → refused languages .badParam)) ∧
      (32 ≤ a.toNat → refused [level] .noSuch)) ∧
    (s.Ready p →
      (3 ≤ a.toNat → refused [.setLoadSelect p [a], .readProfile p [a]] .badParam) ∧
      (4 ≤ a.toNat → refused [.readLineStatus p [a, b]] .noSuch) ∧
      (a.toNat < 4 → 2 ≤ b.toNat → refused [.readLineStatus p [a, b]] .badParam) ∧
      (12 ≤ a.toNat → refused [.readBoothStatus p [a, b]] .noSuch) ∧
      (a.toNat < 12 → 2 ≤ b.toNat → refused [.readBoothStatus p [a, b]] .badParam) ∧
      (76 ≤ a.toNat ∨ 2 ≤ b.toNat → refused [.readMixStatus p [a, b]] .badParam) ∧
      (168 ≤ a.toNat → refused [.readGainPoint p [a]] .noSuch) ∧
      (5 ≤ a.toNat → refused [.selectRecord p [a, b]] .badParam) ∧
      (8 ≤ a.toNat → refused [.readFloor p [a, b, c], .readLanguages p [a, b], .latchTimes p [a]] .badParam) ∧
      ∀ g : Seg, a = num g →
        (s.applied.entry g ≠ g → refused [.readFloor p [a, b, c], .readLanguages p [a, b], .latchTimes p [a]] .noSuch) ∧
        (s.applied.entry g = g → 2 ≤ b.toNat → refused [.readFloor p [a, b, c]] .badParam))

/-- R166 step 4 and R170: a command on an ABSENT port (PORT_RESET apart) makes the port PRESENT and is then judged. By the return
PORT_PRESENT is offered to the other three ports and the authorities are derived again; nothing but port contexts changes, and where
notices wait the timer starts from a timeout that is on. -/
def Obligations.CommandRestoresPresence : Prop :=
  ∀ (i : Instr) (p : PortId) (s : State), i.framePort = some p → (∀ params, i ≠ .portReset p params) →
    (s.port p).frame = .receiving → (s.port p).present = false →
    let u := State.announceAuthority s.chairAuth s.interpAuth
      ((s.setPort p fun r =>
        { r with
          present := true
          timer := if r.queue = [] ∨ r.timeout = 0 then none else some (r.timeout * 1000) }).postTo (fun q => q != p)
        { kind := .portPresent, group := none, subject := .port p, value := none })
    exec i s = exec i u ∧ u = s.returnToPresence p ∧ u.Ready p ∧ { u with ports := s.ports } = s ∧
      s.KeepsPorts (u.setPort p fun r => { r with present := false }) ∧
      ((s.port p).queue ≠ [] →
        (u.port p).timer = if (s.port p).timeout = 0 then none else some ((s.port p).timeout * 1000))

/-! ## Designations, authority, presence, fences -/

/-- R167: the supervisor moves the supervisor designation to a port that is PRESENT and unfenced, and the interpretation port and the home
ports to any port. Each is followed by the recomputation of the authorities, and port contexts change only by its notices (R169). -/
def Obligations.Designations : Prop :=
  ∀ (s : State) (p q : PortId), s.Chief p →
    let announced := State.announceAuthority s.chairAuth s.interpAuth
    ((s.port q).present = true → (s.port q).fenced = false →
      ∃ u : State, exec (.setSupervisor p [num q]) s = .next (u.respond p .ok []) ∧
        u = announced { s with supervisor := q } ∧ u.supervisor = q ∧
        { u with supervisor := s.supervisor, ports := s.ports } = s ∧ s.KeepsPorts u) ∧
    ((s.port q).present = false ∨ (s.port q).fenced = true →
      exec (.setSupervisor p [num q]) s = .next (s.respond p .wrongState [])) ∧
    (∃ u : State, exec (.setInterpPort p [num q]) s = .next (u.respond p .ok []) ∧
      u = announced { s with interpPort := q } ∧ u.interpPort = q ∧
      { u with interpPort := s.interpPort, ports := s.ports } = s ∧ s.KeepsPorts u) ∧
    ∀ x : Seg, ∃ u : State, exec (.setHomePort p [num x, num q]) s = .next (u.respond p .ok []) ∧
      u = announced { s with homePort := s.homePort.put x q } ∧
      u.homePort.entry x = q ∧ (∀ y, y ≠ x → u.homePort.entry y = s.homePort.entry y) ∧
      { u with homePort := s.homePort, ports := s.ports } = s ∧ s.KeepsPorts u

/-- R168: the chair authority of a group is the home port of its lowest member segment whose home port is PRESENT and unfenced, and the
supervisor where there is none; the interpretation authority is the interpretation port where that is PRESENT and unfenced, else the
supervisor. R169: after a designation, presence or fence change, each group whose chair authority moved is told, in ascending anchor, to
the old and the new port alone, then the interpretation authority; a moved chair authority sets the group's change flag for every port. -/
def Obligations.AuthorityNotices : Prop :=
  (∀ s : State,
    let qualifies := fun q : PortId => (s.port q).present = true ∧ (s.port q).fenced = false
    (∀ g x : Seg, s.applied.entry x = g → qualifies (s.homePort.entry x) →
      (∀ y, y < x → s.applied.entry y = g → ¬qualifies (s.homePort.entry y)) → s.chairAuth g = s.homePort.entry x) ∧
    (∀ g : Seg, (∀ x, s.applied.entry x = g → ¬qualifies (s.homePort.entry x)) → s.chairAuth g = s.supervisor) ∧
    (qualifies s.interpPort → s.interpAuth = s.interpPort) ∧
    (¬qualifies s.interpPort → s.interpAuth = s.supervisor)) ∧
  ∀ (s : State) (chair : Seg → PortId) (interp p : PortId),
    let moved := s.applied.anchors.filter fun g => decide (s.chairAuth g ≠ chair g)
    let chairs := (moved.filter fun g => decide (p = chair g ∨ p = s.chairAuth g)).map fun g =>
      { kind := .authorityChanged, group := some g, subject := .port (s.chairAuth g), value := some (chair g).val : Notice }
    let last := if s.interpAuth ≠ interp ∧ (p = interp ∨ p = s.interpAuth) then
      [{ kind := .authorityChanged, group := none, subject := .port s.interpAuth, value := some interp.val : Notice }] else []
    (State.announceAuthority chair interp s).port p =
        (chairs ++ last).foldl (fun r n => r.offer n)
          { s.port p with changes := (s.port p).changes ||| segSet fun g => moved.contains g } ∧
      { State.announceAuthority chair interp s with ports := s.ports } = s

/-- R171: SET_PRESENCE_TIMEOUT, from the named port or the supervisor, stores the timeout, which acts on the timer at once. -/
def Obligations.PresenceTimeout : Prop :=
  ∀ (s : State) (p : PortId) (b n : Byte), s.Ready p →
    ((s.port p).fenced = true → exec (.setPresenceTimeout p [b, n]) s = .next (s.respond p .fenced [])) ∧
    ((s.port p).fenced = false →
      (s.supervisor ≠ p → b.toNat ≠ p.val →
        exec (.setPresenceTimeout p [b, n]) s = .next (s.respond p .notAuthority [])) ∧
      (s.supervisor = p → 3 < b.toNat →
        exec (.setPresenceTimeout p [b, n]) s = .next (s.respond p .noSuch [])) ∧
      ∀ q : PortId, b.toNat = q.val → s.supervisor = p ∨ q = p →
        (60 < n.toNat → exec (.setPresenceTimeout p [b, n]) s = .next (s.respond p .badParam [])) ∧
        (n.toNat ≤ 60 →
          exec (.setPresenceTimeout p [b, n]) s =
            .next ((s.setPort q fun r =>
              { r with
                timeout := n.toNat
                timer :=
                  if n.toNat = 0 then none
                  else if r.present = true ∧ r.queue ≠ [] then some (n.toNat * 1000)
                  else r.timer }).respond p .ok [])))

/-- R172: the supervisor sets and clears the fence of a port. A change posts PORT_FENCE to every port and derives the authorities again; a
fence already as named changes nothing; the supervisor's own port cannot be fenced. -/
def Obligations.Fences : Prop :=
  ∀ (s : State) (p q : PortId), s.Chief p →
    (q = p → exec (.setPortFence p [num q]) s = .next (s.respond p .badParam [])) ∧
    (q ≠ p → (s.port q).fenced = true → exec (.setPortFence p [num q]) s = .next (s.respond p .ok [])) ∧
    ((s.port q).fenced = false → exec (.clearPortFence p [num q]) s = .next (s.respond p .ok [])) ∧
    (q ≠ p → (s.port q).fenced = false →
      ∃ u : State, exec (.setPortFence p [num q]) s = .next (u.respond p .ok []) ∧
        u = State.announceAuthority s.chairAuth s.interpAuth
          ((s.setPort q fun r => { r with fenced := true }).post .portFence none (.port q) (some 1)) ∧
        (u.port q).fenced = true ∧ { u with ports := s.ports } = s ∧
        s.KeepsPorts (u.setPort q fun r => { r with fenced := false })) ∧
    ((s.port q).fenced = true →
      ∃ u : State, exec (.clearPortFence p [num q]) s = .next (u.respond p .ok []) ∧
        u = State.announceAuthority s.chairAuth s.interpAuth
          ((s.setPort q fun r => { r with fenced := false }).post .portFence none (.port q) (some 0)) ∧
        (u.port q).fenced = false ∧ { u with ports := s.ports } = s ∧
        s.KeepsPorts (u.setPort q fun r => { r with fenced := true }))

/-- R170, R179: a running presence timer that expires makes a port with a subscription ABSENT: PORT_ABSENT to the other three ports, and
authority moves away from it, but for what falls to it as supervisor (R168). A port with the empty subscription stays PRESENT, and its
timer stops (the stop is the model's choice, log entry 41). A stopped timer does not expire (the model's reading, log entry 5). -/
def Obligations.PresenceExpiry : Prop :=
  ∀ (s : State) (p : PortId),
    ((s.port p).timer = none → exec (.presenceTimerExpiry p) s = .next s) ∧
    ((s.port p).timer ≠ none → (s.port p).subscription = 0 →
      exec (.presenceTimerExpiry p) s = .next (s.setPort p fun r => { r with timer := none })) ∧
    ((s.port p).timer ≠ none → (s.port p).subscription ≠ 0 →
      ∃ u : State, exec (.presenceTimerExpiry p) s = .next u ∧
        u = State.announceAuthority s.chairAuth s.interpAuth
          ((s.setPort p fun r => { r with present := false, timer := none }).postTo (fun q => q != p)
            { kind := .portAbsent, group := none, subject := .port p, value := none }) ∧
        (u.port p).present = false ∧ (u.port p).timer = none ∧ { u with ports := s.ports } = s ∧
        s.KeepsPorts (u.setPort p fun r => { r with present := (s.port p).present }) ∧
        (∀ g, u.chairAuth g = p → s.supervisor = p) ∧ (u.interpAuth = p → s.supervisor = p))

/-- R176: PORT_RESET empties the issuing port's queue, snapshot, cursor, change set and counters and stops its timer, and then the port
returns to presence; nothing outside the port contexts changes. -/
def Obligations.PortReset : Prop :=
  ∀ (s : State) (p : PortId), (s.port p).frame = .receiving →
    let c := s.setPort p fun r =>
      { r with
        queue := [], overflow := 0, snapshot := none, cursor := none, changes := 0, shortFrames := 0, timer := none }
    exec (.portReset p []) s = .next ((c.returnToPresence p).respond p .ok []) ∧
      ((s.port p).present = true → c.returnToPresence p = c) ∧
      ((c.returnToPresence p).port p).present = true ∧ { c.returnToPresence p with ports := s.ports } = s

/-! ## Notices and reads of a port -/

/-- R178: each kind of notice is of the category that section 11.3 gives. A posted notice is offered to every port whose subscription
holds its category: it joins the tail of a queue of fewer than 32, else the overflow count rises, up to 255. A queue that was empty starts
the timer of a PRESENT port with a timeout (R170). -/
def Obligations.NoticeOffered : Prop :=
  (∀ kind : NoticeKind, ∃ first kinds, (kind.category.bit, first, kinds) ∈ noticeCatalogue ∧ kind ∈ kinds) ∧
  ∀ (s : State) (kind : NoticeKind) (group : Option Seg) (subject : Subject) (value : Option Nat) (p : PortId),
    let u := s.post kind group subject value
    let r := s.port p
    { u with ports := s.ports } = s ∧
      (r.subscription.getLsbD kind.category.bit = false → u.port p = r) ∧
      (r.subscription.getLsbD kind.category.bit = true → 32 ≤ r.queue.length →
        u.port p = { r with overflow := min (r.overflow + 1) 255 }) ∧
      (r.subscription.getLsbD kind.category.bit = true → r.queue.length < 32 →
        u.port p =
          { r with
            queue := r.queue ++ [{ kind := kind, group := group, subject := subject, value := value }]
            timer :=
              if r.queue = [] ∧ r.present = true ∧ r.timeout ≠ 0 then some (r.timeout * 1000) else r.timer })

/-- R179, R180, served to every port: SET_SUBSCRIPTION replaces the subscription and answers with it. READ_NOTICES removes the oldest
notices, as many as the smallest of the count, 3 and the number queued, answers with the overflow count, the number removed and the
notices, clears the count, and restarts or stops the timer. A count of 0 is BAD_PARAM. Each notice is the record of section 11.4 (number 0
where it has no subject, and 0 in the bits of byte 1 that have no field: the model's choice, log entry 47): the kind by its code of
section 11.3, whether a value is present, the group anchor or 255, the type and the number of the subject, and the value, 0 if absent. -/
def Obligations.NoticeCommands : Prop :=
  (∀ n : Notice,
    let word := fun x : Nat => [BitVec.ofNat 8 (x / 256), BitVec.ofNat 8 x]
    let subject : List Byte :=
      match n.subject with
      | .none => 0 :: word 0
      | .seat i => 1 :: word i.val
      | .booth b => 2 :: word b.val
      | .desk b d => 3 :: word (3 * b.val + d.val)
      | .channel c => 4 :: word c.val
      | .wall w => 5 :: word w.val
      | .line l => 6 :: word l.val
      | .port q => 7 :: word q.val
    ∃ category first kinds place, (category, first, kinds) ∈ noticeCatalogue ∧ kinds[place]? = some n.kind ∧
      n.bytes =
        [BitVec.ofNat 8 (first + place), if n.value = none then 0 else 1, match n.group with | none => 255 | some g => num g] ++
          subject ++ word (n.value.getD 0)) ∧
  ∀ (s : State) (p : PortId), s.Ready p →
    (∀ m : Byte, exec (.setSubscription p [m]) s =
      .next ((s.setPort p fun r => { r with subscription := m }).respond p .ok [m])) ∧
    exec (.readNotices p [0]) s = .next (s.respond p .badParam []) ∧
    ∀ n : Byte, n ≠ 0 →
      let k := min (min n.toNat 3) (s.port p).queue.length
      exec (.readNotices p [n]) s =
        .next ((s.setPort p fun r =>
          { r with
            queue := r.queue.drop k
            overflow := 0
            timer :=
              if r.queue.length ≤ k then none
              else if r.timeout = 0 then none else some (r.timeout * 1000) }).respond p .ok
          ([BitVec.ofNat 8 (s.port p).overflow, BitVec.ofNat 8 k] ++ ((s.port p).queue.take k).flatMap Notice.bytes))

/-- R173, served to every port: SELECT_RECORD stores the table and the index, no further than the table's end, and answers with the index.
READ_NEXT answers WRONG_STATE without a cursor and BAD_PARAM for a count of 0; else it returns the records from the index on, up to the
count and to 1, 1, 1, 5 and 3 of the tables SEATS, GROUPS, BOOTHS, CHANNELS and WALLS, and the cursor advances past them. R55, R17, R32,
R127, R162, R168, R112: the records and their fields. The codes of choices, the index 255 of an empty answer and the bytes of UNASSIGNED
ends are the model's reading (log entry 20), an absent stamp and the contents BOOTH and UNDER free codes (log entry 19). -/
def Obligations.RecordCursor : Prop :=
  (∀ (s : State) (p : PortId), s.Ready p →
    (∀ (t : RecordTable) (n : Byte),
      let k := min n.toNat (tableEnd s t)
      (tableRecords s t).length = tableEnd s t ∧
      exec (.selectRecord p [BitVec.ofNat 8 t.code, n]) s =
        .next ((s.setPort p fun r => { r with cursor := some { table := t, index := k } }).respond p .ok
          [BitVec.ofNat 8 k])) ∧
    exec (.readNext p [0]) s = .next (s.respond p .badParam []) ∧
    ∀ n : Byte, n ≠ 0 →
      ((s.port p).cursor = none → exec (.readNext p [n]) s = .next (s.respond p .wrongState [])) ∧
      ∀ c : Cursor, (s.port p).cursor = some c →
        let most := match c.table with | .seats => 1 | .groups => 1 | .booths => 1 | .channels => 5 | .walls => 3
        let records := ((tableRecords s c.table).drop c.index).take (min n.toNat most)
        exec (.readNext p [n]) s =
          .next ((s.setPort p fun r =>
            { r with cursor := some { c with index := c.index + records.length } }).respond p .ok
            ([BitVec.ofNat 8 c.table.code,
                BitVec.ofNat 8 (if records = [] then 255 else c.index),
                BitVec.ofNat 8 records.length] ++ records.flatten))) ∧
    ∀ s : State,
      let byte := fun n : Nat => BitVec.ofNat 8 n
      let word := fun n : Nat => [byte (n / 256), byte n]
      let long := fun n : Nat => [byte (n / 16777216), byte (n / 65536), byte (n / 256), byte n]
      let item := fun (n : Nat) (x : Option (Fin n)) => match x with | none => (255 : Byte) | some k => num k
      let level := fun x : Level => match x with | .mute => (255 : Byte) | .steps n => byte n
      let stamp := fun x : Option Nat => long (match x with | none => Config.absentStampCode.toNat | some n => n)
      tableRecords s .seats = (List.finRange 256).map (fun i =>
        let q := s.seat i
        [byte (i.val / 64), byte (i.val % 64 + 1), item 8 q.segment, BitVec.ofInt 8 q.trim, if q.mask then 1 else 0,
            byte q.kind.code, byte q.link.code, byte q.missed, if q.keyHeld then 1 else 0, byte q.floor.code, item 8 q.slot] ++
          stamp q.requestStamp ++ stamp q.grantStamp ++ [byte q.light.code]) ∧
      tableRecords s .groups = ((List.finRange 8).filter fun g => decide (s.applied.entry g = g)).map (fun g =>
        let r := s.params g
        [num g, segSet fun x => decide (s.applied.entry x = g), byte r.floorMode.code, byte r.maxOpen] ++ word r.speakLimit ++
          [byte r.limitAction.code, byte r.warnLead, byte r.priorityMode.code, if r.nomEnable then 1 else 0, byte r.underLevel,
            byte r.regroupPolicy.code] ++ (0 :: (s.group g).langs).map num ++ [level (s.group g).fader, num (s.chairAuth g)]) ∧
      tableRecords s .booths = (List.finRange 12).map (fun b =>
        let r := s.booth b
        [item 8 r.home, item 64 r.langA, item 64 r.langB, byte r.mode.code, if r.online then 1 else 0, byte r.roleA.code,
            byte r.roleB.code, item 3 r.live] ++ word r.run ++ word r.lostFrames ++ word r.badCrc ++
          (List.finRange 3).flatMap fun d =>
            [if r.live = some d then 1 else 0, match (r.desk d).selected with | .a => 0 | .b => 1, item 12 (r.desk d).relay,
              byte (r.desk d).feed.code]) ∧
      tableRecords s .channels = (List.finRange 32).map (fun c =>
        let r := s.channel c
        [if r.owner = none then 0 else 1, item 8 (r.owner.map SlotName.group), item 64 (r.owner.map SlotName.language),
          level r.level, r.content.byte]) ∧
      tableRecords s .walls = (List.finRange 10).map (fun w =>
        let r := s.wall w
        [item 8 (r.ends.map Prod.fst), item 8 (r.ends.map Prod.snd), byte r.settle, byte r.override.code, byte r.resolved.code,
          byte r.status.code, byte (if r.status = .settling then (r.settle * 500 - r.stable + 99) / 100 else 0),
          byte r.effective.code])

/-- R175: READ_PORTS, served to every port, answers with the designations, the interpretation authority, and presence, fence, timeout and
subscription of each port, and changes nothing. R174: READ_STATUS, served to every port, answers with the regroup state, in PENDING and
HELD the proposed anchors, the line states, presence and fence of the ports, the designations, the issuing port, its short frames and its
change set, which is then emptied. The codes, and the absence of the proposed anchors in IN_STEP, are the model's reading (log entry 20).
-/
def Obligations.PortReads : Prop :=
  (∀ (s : State) (p : PortId), s.Ready p →
    exec (.readPorts p []) s =
      .next (s.respond p .ok
        ([num s.supervisor, num s.interpPort] ++ (allSegs.map fun x => num (s.homePort.entry x)) ++ [num s.interpAuth] ++
          allPorts.flatMap fun q =>
            [if (s.port q).present then 0 else 1, if (s.port q).fenced then 1 else 0, BitVec.ofNat 8 (s.port q).timeout,
              (s.port q).subscription]))) ∧
    ∀ (s : State) (p : PortId), s.Ready p →
    exec (.readStatus p []) s =
      .next ((s.setPort p fun r => { r with changes := 0 }).respond p .ok
        ([match s.regroup with | .inStep => (0 : Byte) | .pending => 1 | .held => 2] ++
          (if s.regroup = .inStep then [] else allSegs.map fun x => num (s.proposed.entry x)) ++
          (allLines.map fun l =>
            match (s.line l).state with | .down => (0 : Byte) | .addressing => 1 | .verifying => 2 | .running => 3 | .fault => 4) ++
          (allPorts.flatMap fun q => [if (s.port q).present then 0 else 1, if (s.port q).fenced then 1 else 0]) ++
          [num s.supervisor, num s.interpPort, num p, BitVec.ofNat 8 ((s.port p).shortFrames / 256),
            BitVec.ofNat 8 (s.port p).shortFrames, (s.port p).changes]))


/-! ## Walls and topology -/

/-- R1 to R5. A contact change stores the contacts and resolves the wall: where the resolved state changes, the stable time is 0, the wall
is SETTLING when OPEN or CLOSED and STOPPED otherwise, and entering FAULT posts WALL_FAULT. An expiry makes a SETTLING wall SETTLED with
its whole settle time; under FOLLOW the effective state then takes the resolved state, with WALL_CHANGED and the evaluation where it
changes, and under a forced override it stays. No other wall changes. A wall that is not SETTLING has no timer running (the model's
reading, log entry 5). -/
def Obligations.WallSensors : Prop :=
  (∀ (s : State) (w : WallId) (o c : Bool),
    let r : Resolved :=
      match o, c with
      | true, false => .opened
      | false, true => .closed
      | false, false => .moving
      | true, true => .fault
    let contacts := s.setWall w fun x => { x with openContact := o, closedContact := c }
    let moved := contacts.setWall w fun x =>
      { x with resolved := r, status := if r = .opened ∨ r = .closed then .settling else .stopped, stable := 0 }
    exec (.contactChange w o c) s =
      .next (State.finish
        (if (s.wall w).resolved = r then contacts
          else if r = .fault then moved.post .wallFault none (.wall w) none else moved))) ∧
    ∀ (s : State) (w : WallId),
    ((s.wall w).status ≠ .settling → exec (.settleTimerExpiry w) s = .next s) ∧
    ((s.wall w).status = .settling →
      let settled := s.setWall w fun r => { r with status := .settled, stable := r.settle * 500 }
      let effective : WallPos :=
        if (s.wall w).override = .follow then
          match (s.wall w).resolved with
          | .opened => .opened
          | .closed => .closed
          | _ => (s.wall w).effective
        else (s.wall w).effective
      let changed := (settled.setWall w fun r => { r with effective := effective }).post .wallChanged none (.wall w)
        (some (match effective with | .closed => 0 | .opened => 1))
      let t := State.finish
        (if effective = (s.wall w).effective then settled
          else if (s.wall w).ends = none then changed else changed.evaluate)
      exec (.settleTimerExpiry w) s = .next t ∧ (∀ v, v ≠ w → t.wall v = s.wall v) ∧
        t.wall w =
          { s.wall w with status := .settled, stable := (s.wall w).settle * 500, effective := effective } ∧
        s.KeepsBesideRegroup { t with walls := s.walls })

/-- R10, R11: the proposed topology puts two segments in one group exactly when a chain of walls of the effective set joins them, and
names each group by its lowest segment. -/
def Obligations.ProposedFormed : Prop :=
  ∀ s : State, s.formProposed.Canonical ∧
    ∀ x y, s.formProposed.entry x = s.formProposed.entry y ↔ Relation.EqvGen (fun a b => (a, b) ∈ s.effectiveSet) x y

/-- Section 1.8: an affected group is a group of the applied topology whose member set differs in the proposed topology, and it is held
open when its session is OPEN and its regroup_policy ARMED. R12: the three outcomes of an evaluation: IN_STEP (announced from PENDING and
HELD), PENDING with the set of anchors held open, or the application. R5: a change of effective state posts WALL_CHANGED with the new
state, and for an assigned wall the evaluation of R12 follows. -/
def Obligations.Evaluation : Prop :=
  (∀ (s : State) (g : Seg),
    (s.affected g = true ↔ s.applied.entry g = g ∧ ∃ x, ¬(s.applied.entry x = g ↔ s.proposed.entry x = g)) ∧
    (s.heldOpen g = true ↔
      s.affected g = true ∧ (s.group g).session = .opened ∧ (s.params g).regroupPolicy = .armed)) ∧
  (∀ s : State,
    let t := { s with proposed := s.formProposed }
    (s.formProposed = s.applied → s.regroup = .inStep → s.evaluate = { t with regroup := .inStep }) ∧
    (s.formProposed = s.applied → s.regroup ≠ .inStep →
      s.evaluate = ({ t with regroup := .inStep }).post .topologyInStep none .none none) ∧
    (s.formProposed ≠ s.applied → (∃ g, t.affected g = true ∧ (t.group g).session = .opened ∧
        (t.params g).regroupPolicy = .armed) →
      s.evaluate = ({ t with regroup := .pending }).post .topologyPending none .none (some t.heldSet.toNat) ∧
        ∀ g : Seg, t.heldSet.getLsbD g.val = t.heldOpen g) ∧
    (s.formProposed ≠ s.applied → (∀ g, t.affected g = true → (t.group g).session = .opened →
        (t.params g).regroupPolicy ≠ .armed) →
      s.evaluate = t.applyTopology)) ∧
    ∀ (s : State) (w : WallId) (e : WallPos),
    ((s.wall w).effective = e → s.setEffective w e = s) ∧
    ((s.wall w).effective ≠ e →
      let t := (s.setWall w fun r => { r with effective := e }).post .wallChanged none (.wall w)
        (some (match e with | .closed => 0 | .opened => 1))
      ((s.wall w).ends = none → s.setEffective w e = t) ∧ ((s.wall w).ends ≠ none → s.setEffective w e = t.evaluate))

/-- R14, R129, R131, R134, R138: an application makes the proposed topology the applied topology and goes to IN_STEP. A group has its
session OPEN exactly where one of the groups it is made of had, and keeps the fader and, ahead of any others, the languages of the group
its anchor was in; an anchor that is one no longer loses its record. Walls, profiles, selections, designations, the clock, clip counters
and the order of waiting commands are untouched, and no seat changes its segment, trim, mask, kind or link. R129: the pieces are the
common parts of old and new groups, divisions come before folds, each in ascending anchor. R14, R141 to R144: then, in this order,
GROUPS_CHANGED with the change flag of every record of a group that is not untouched; the speaker settings; the roles and every channel's
content; the authorities; the deferred slots, offered in the order in which they were freed; a promotion pass on every group that is not
untouched. The roles' report and the channels are decided in one pass, and a new group's old authority is that of the group its anchor was
in (the model's reading, log entries 17 and 34). -/
def Obligations.Application : Prop :=
  (∀ s : State, s.applied.Canonical → s.proposed.Canonical →
    let t := s.applyTopology
    t.applied = s.proposed ∧ t.proposed = s.proposed ∧ t.regroup = .inStep ∧
      s.KeepsBesideRegroup t ∧
      (∀ g, s.proposed.isAnchor g = false → t.floorBus.entry g = 0) ∧
      (∀ g, s.proposed.isAnchor g = true →
        ((t.group g).session = .opened ↔
          ∃ x, s.proposed.entry x = g ∧ (s.group (s.applied.entry x)).session = .opened) ∧
        (t.group g).fader = (s.group (s.applied.entry g)).fader ∧
        (s.group (s.applied.entry g)).langs <+: (t.group g).langs) ∧
      (∀ g, s.applied.isAnchor g = true → s.proposed.isAnchor g = false → t.group g = Group.empty) ∧
      ∀ b, (t.booth b).home = (s.booth b).home ∧ (t.booth b).langA = (s.booth b).langA ∧
        (t.booth b).langB = (s.booth b).langB ∧ (t.booth b).online = (s.booth b).online) ∧
    (∀ old new : Topology, (Topology.pieces old new).Canonical ∧
      ∀ x y, (Topology.pieces old new).entry x = (Topology.pieces old new).entry y ↔
        old.entry x = old.entry y ∧ new.entry x = new.entry y) ∧
    ∀ s : State,
      let old := s.applied
      let new := s.proposed
      let pieces := Topology.pieces old new
      let anchors := fun t : Topology => (List.finRange 8).filter fun g => decide (t.entry g = g)
      let touched := fun p : Seg => decide (∃ x, ¬(old.entry x = old.entry p ↔ new.entry x = new.entry p))
      let divided := (anchors old).foldl (Flight.divide s.liveOutputs old pieces) { state := s, deferred := [] }
      let folded := (anchors new).foldl
        (fun f g => ((anchors pieces).filter fun p => decide (new.entry p = g)).tail.foldl (Flight.fold s.liveOutputs g) f) divided
      let grouped := ({ folded.state with regroup := .inStep } : State).post .groupsChanged none .none
        (some (segSet fun g => decide (folded.state.applied.entry g = g)).toNat)
      let flagged := ((anchors pieces).filter touched).foldl State.flagChange grouped
      let spoken := (List.finRange 256).foldl (fun t i =>
        let speaker := if (t.seat i).floor = .opened then none else t.groupOf i
        if (t.seat i).speaker = speaker then t
        else (t.setSeat i fun q => { q with speaker := speaker }).send i (.speaker speaker)) flagged
      let voiced := spoken.recomputeRoles
      let decided := (List.finRange 32).foldl (State.redecide voiced.liveOutputs) voiced
      let told := State.announceAuthority (fun g => s.chairAuth (old.entry g)) s.interpAuth decided
      let offered := folded.deferred.foldl (fun t d => t.offerSlot d.1 d.2) told
      let promoted := ((anchors new).filter touched).foldl State.promote offered
      s.applyTopology =
        { promoted with
          floorBus := promoted.floorBus.mapEntries fun g x => if promoted.applied.isAnchor g = true then x else 0 }

/-- R130 to R133: a division gives every piece the session, fader and languages of the old group, its seats of the list and the set in
their order, and as hold count its held keys, judges each piece and serves the slots of the new records. R132, R136: the regroup return
takes the excess delegates, latest-granted first; of the list they would join, the entries beyond 48 are the cut; a delegate in the cut is
closed with cause REGROUP, another returned, then the waiting seats of the cut are dropped; the freed slots are deferred. It leaves at
most max_open OPEN delegates and 48 waiting. R132, R137: PRIORITY_MUTE_ON or OFF where the mute changed. R134 to R136: a fold merges lists
and sets by stamp, adds the hold counts, drops above 48, then returns. R138: the lower record's languages come first, up to 12. R139,
R140: the kept slot of a shared language by the table; losing slots leave the queue, losing channels are released, kept slots take the
name of the receiving record, dormant slots of an OPEN record are served. Contents during divisions and folds are decided against the live
outputs of the old groups, and SPEAKER is sent where the setting changed (the model's reading, log entries 18 and 21). SPEAKER goes out
after LIGHT OFF for a dropped seat, and the records of one division are judged in ascending anchor (the model's choices, log entries 40
and 49). -/
def Obligations.DivisionsAndFolds : Prop :=
  (∀ (s : State) (pieces : Topology) (a : Seg) (ps : List Seg),
    let t := s.splitRecords pieces a ps
    (∀ x, t.applied.entry x = if s.applied.entry x = a then pieces.entry x else s.applied.entry x) ∧
    (∀ p, t.group p =
      if p ∈ ps then
        { s.group a with
          waiting := (s.group a).waiting.filter fun i => decide (t.groupOf i = some p)
          openSet := (s.group a).openSet.filter fun i => decide (t.groupOf i = some p)
          hold := ((List.finRange 256).filter fun i =>
            decide ((s.seat i).kind = .chair ∧ (s.seat i).keyHeld = true ∧ t.groupOf i = some p)).length }
      else s.group p) ∧
    { t with applied := s.applied, groups := s.groups } = s) ∧
    (∀ (f : Flight) (g : Seg) (was : Bool),
      let s := f.state
      let t := f.regroupReturn g
      let excess := ((s.openDelegates g).drop (s.params g).maxOpen).reverse
      let joint := s.mergeRequests (s.group g).waiting excess
      let cut := joint.drop 48
      let drop := fun (u : State) (i : SeatId) => State.reformSpeaker
        ((((u.setGroup g fun r => { r with waiting := r.waiting.filter (· != i) }).setSeat i fun q =>
          { q with floor := .idle, requestStamp := none }).setLight i .off).post .requestDropped (some g) (.seat i) none) i
      let muted := (s.params g).priorityMode = .muteWhileHeld ∧ 0 < (s.group g).hold
      t.state = (cut.reverse.filter fun i => decide (i ∉ excess)).foldl drop
          (excess.foldl (fun u i => if i ∈ cut then u.closeCore g i .regroup else u.returnSeat g i) s) ∧
        (t.state.openDelegates g).length ≤ (s.params g).maxOpen ∧
        ((∀ i ∈ (s.group g).waiting, i ∉ (s.group g).openSet) → (t.state.group g).waiting.length ≤ 48) ∧
        ((s.openDelegates g).Nodup → (∀ i ∈ s.openDelegates g, (s.seat i).slot.isSome) →
          t.deferred = f.deferred ++ excess.map fun i => (lineOf i, (s.seat i).slot.getD 0)) ∧
        (f.judgeMute g was).deferred = f.deferred ∧
        (was = false → muted → (f.judgeMute g was).state = s.post .priorityMuteOn (some g) .none none) ∧
        (was = true → ¬muted → (f.judgeMute g was).state = s.post .priorityMuteOff (some g) .none none) ∧
        ((was = true ↔ muted) → (f.judgeMute g was).state = s)) ∧
    (∀ (s : State) (xs ys : List SeatId),
      ((s.mergeRequests xs ys).Perm (xs ++ ys) ∧
        (xs.Pairwise (fun i j => s.requestOf i ≤ s.requestOf j) →
          (s.mergeRequests xs ys).Pairwise fun i j => s.requestOf i ≤ s.requestOf j)) ∧
      (s.mergeGrants xs ys).Perm (xs ++ ys) ∧
        (xs.Pairwise (fun i j => s.grantOf i ≤ s.grantOf j) →
          (s.mergeGrants xs ys).Pairwise fun i j => s.grantOf i ≤ s.grantOf j)) ∧
    (∀ (live : List (SlotName × BoothId)) (old pieces : Topology) (f : Flight) (a : Seg),
      let ps := (List.finRange 8).filter fun p => decide (pieces.entry p = p ∧ old.entry p = a)
      (ps.length ≤ 1 → f.divide live old pieces a = f) ∧
      (1 < ps.length →
        let split := { f with state := f.state.splitRecords pieces a ps }
        let judged := ps.foldl (fun h p => (h.regroupReturn p).judgeMute p (decide (p = a) && f.state.muted a)) split
        f.divide live old pieces a =
          { judged with
            state := (ps.filter (· != a)).foldl
              (fun t p =>
                if (t.group p).session = .opened then
                  (0 :: (t.group p).langs).foldl (fun u l => u.serve live ⟨p, l⟩) t
                else t) judged.state })) ∧
    (∀ (live : List (SlotName × BoothId)) (f : Flight) (r j : Seg),
      let s := f.state
      let joined := { s with applied := s.applied.mapEntries fun _ g => if g = j then r else g }
      let merged := joined.setGroup r fun e =>
        { e with
          session := if (s.group r).session = .opened ∨ (s.group j).session = .opened then .opened else .closed
          waiting := s.mergeRequests (s.group r).waiting (s.group j).waiting
          openSet := s.mergeGrants (s.group r).openSet (s.group j).openSet
          hold := (s.group r).hold + (s.group j).hold }
      let drop := fun (u : State) (i : SeatId) => State.reformSpeaker
        ((((u.setGroup r fun e => { e with waiting := e.waiting.filter (· != i) }).setSeat i fun q =>
          { q with floor := .idle, requestStamp := none }).setLight i .off).post .requestDropped (some r) (.seat i) none) i
      let capped := ((merged.group r).waiting.drop 48).reverse.foldl drop merged
      let judged := (Flight.regroupReturn { f with state := capped } r).judgeMute r (s.muted r)
      f.fold live r j =
        { judged with state := (judged.state.foldLanguages live r j).setGroup j fun _ => Group.empty }) ∧
    (∀ (r j : Seg) (l : Lang) (c c' : ChanId) (m n : Nat),
      let keepsR := fun x y : SlotState => State.loserOf (⟨r, l⟩, x) (⟨j, l⟩, y) = ⟨j, l⟩
      let keepsJ := fun x y : SlotState => State.loserOf (⟨r, l⟩, x) (⟨j, l⟩, y) = ⟨r, l⟩
      keepsR (.allocated c) (.allocated c') ∧ keepsR (.allocated c) (.queued n) ∧ keepsR (.allocated c) .dormant ∧
        keepsJ (.queued m) (.allocated c') ∧ (m < n → keepsR (.queued m) (.queued n)) ∧ (n < m → keepsJ (.queued m) (.queued n)) ∧
        keepsR (.queued m) .dormant ∧ keepsJ .dormant (.allocated c') ∧ keepsJ .dormant (.queued n) ∧ keepsR .dormant .dormant) ∧
    ∀ (live : List (SlotName × BoothId)) (s : State) (r j : Seg),
      let new := (s.group j).langs.filter fun l => decide (l ∉ (s.group r).langs)
      let added := new.take (12 - (s.group r).langs.length)
      let dropped := new.drop (12 - (s.group r).langs.length)
      let shared := (0 :: (s.group j).langs).filter fun l => decide (l ∈ 0 :: (s.group r).langs)
      let losing := (shared.map fun l => State.loserOf (⟨r, l⟩, s.slotState ⟨r, l⟩) (⟨j, l⟩, s.slotState ⟨j, l⟩)) ++
        dropped.map fun l => (⟨j, l⟩ : SlotName)
      let named := fun n : SlotName => if n.group = j then (⟨r, n.language⟩ : SlotName) else n
      let listed := s.setGroup r fun e => { e with langs := e.langs ++ added }
      let told := dropped.foldl (fun t l => t.post .languageDropped (some r) .none (some l.val)) listed
      let flagged := if added = [] ∧ dropped = [] then told else told.flagChange r
      let adopted :=
        { flagged with
          waitQueue := (s.waitQueue.filter fun n => decide (n ∉ losing)).map named
          channels := s.channels.mapEntries fun _ e =>
            { e with owner := e.owner.map fun n => if n ∈ losing then n else named n } }
      let released := ((0 :: (s.group j).langs).filter fun l => decide (⟨j, l⟩ ∈ losing)).foldl
        (fun t l => match s.channelOf ⟨j, l⟩ with
          | none => t
          | some c => t.release live c r l) adopted
      s.foldLanguages live r j =
        if (released.group r).session = .opened then
          (0 :: (released.group r).langs).foldl
            (fun t l => if t.slotState ⟨r, l⟩ = .dormant then t.serve live ⟨r, l⟩ else t) released
        else released

/-- R5 to R7: the supervisor stores an override. FORCE_OPEN and FORCE_CLOSED set the effective state at once; a return to FOLLOW takes the
resolved state of a SETTLED wall and keeps the forced value of any other; a changed effective state is announced and evaluated. Settle
status and stable time are not disturbed, and the override the wall already has changes nothing. R8: the supervisor stores a settle time,
clamped to 1 to 16 half seconds, and is answered with it. It acts at once: a SETTLING wall whose stable time has reached it expires (R4),
one that has not runs on, a SETTLED wall takes it as its stable time. R9: the supervisor sets a wall's ends, lower segment first, or
UNASSIGNED: IN_USE while the wall is effective OPEN, nothing for the ends it has, else the ends are stored and the evaluation of R12
follows. Equal segments are BAD_PARAM. Where a shorter settle time expires the timer at once, the stable time is the new settle time (the
model's choice, log entry 46). -/
def Obligations.WallSettings : Prop :=
  ((∀ (s : State) (p : PortId) (w : WallId) (o : Override), s.Chief p →
    ((s.wall w).override = o →
      exec (.setWallOverride p [num w, BitVec.ofNat 8 o.code]) s = .next (s.respond p .ok [])) ∧
    ((s.wall w).override ≠ o →
      let effective : WallPos :=
        match o with
        | .forceOpen => .opened
        | .forceClosed => .closed
        | .follow =>
          if (s.wall w).status = .settled then
            match (s.wall w).resolved with
            | .opened => .opened
            | .closed => .closed
            | _ => (s.wall w).effective
          else (s.wall w).effective
      let stored := s.setWall w fun r => { r with override := o }
      let changed := (stored.setWall w fun r => { r with effective := effective }).post .wallChanged none (.wall w)
        (some (match effective with | .closed => 0 | .opened => 1))
      ∃ u : State, exec (.setWallOverride p [num w, BitVec.ofNat 8 o.code]) s = .next (u.respond p .ok []) ∧
        u = State.finish
          (if effective = (s.wall w).effective then stored
            else if (s.wall w).ends = none then changed else changed.evaluate) ∧
        (∀ v, v ≠ w → u.wall v = s.wall v) ∧ u.wall w = { s.wall w with override := o, effective := effective } ∧
        s.KeepsBesideRegroup { u with walls := s.walls })) ∧
    ∀ (s : State) (p : PortId) (w : WallId) (n : Byte), s.Chief p →
    let k := if n.toNat < 1 then 1 else if 16 < n.toNat then 16 else n.toNat
    let t := s.setWall w fun r => { r with settle := k }
    exec (.setWallSettle p [num w, n]) s =
      .next ((State.finish (match (s.wall w).status with
        | .stopped => t
        | .settled => t.setWall w fun r => { r with stable := k * 500 }
        | .settling => if k * 500 ≤ (s.wall w).stable then t.expireSettle w else t)).respond p .ok [BitVec.ofNat 8 k])) ∧
    (∀ (s : State) (w : WallId),
      let settled := s.setWall w fun r => { r with status := .settled, stable := r.settle * 500 }
      s.expireSettle w =
        match (s.wall w).override, (s.wall w).resolved with
        | .follow, .opened => settled.setEffective w .opened
        | .follow, .closed => settled.setEffective w .closed
        | _, _ => settled) ∧
    ∀ (s : State) (p : PortId) (w : WallId), s.Chief p →
    (∀ x : Seg, exec (.setWallEnds p [num w, num x, num x]) s = .next (s.respond p .badParam [])) ∧
    ∀ (x y : Byte) (ends : Option (Seg × Seg)),
      (x = 255 ∧ ends = none) ∨ (∃ a b : Seg, a < b ∧ ends = some (a, b) ∧ (x = num a ∧ y = num b ∨ x = num b ∧ y = num a)) →
      ((s.wall w).effective = .opened → exec (.setWallEnds p [num w, x, y]) s = .next (s.respond p .inUse [])) ∧
      ((s.wall w).effective = .closed → (s.wall w).ends = ends →
        exec (.setWallEnds p [num w, x, y]) s = .next (s.respond p .ok [])) ∧
      ((s.wall w).effective = .closed → (s.wall w).ends ≠ ends →
        ∃ u : State, exec (.setWallEnds p [num w, x, y]) s = .next (u.respond p .ok []) ∧
          u = (s.setWall w fun r => { r with ends := ends }).evaluate.finish ∧
          u.wall w = { s.wall w with ends := ends } ∧ (∀ v, v ≠ w → u.wall v = s.wall v) ∧
          s.KeepsBesideRegroup { u with walls := s.walls })

/-- R15, R16: from the supervisor, or from the chair authority of an affected group, CONFIRM_REGROUP applies the proposed topology in
PENDING and HELD, and CANCEL_REGROUP holds it in PENDING; in the other states they are WRONG_STATE, and from another port they are
NOT_AUTHORITY. -/
def Obligations.ConfirmAndCancel : Prop :=
  ∀ (s : State) (p : PortId), s.Unfenced p →
    (s.regroup = .inStep → exec (.confirmRegroup p []) s = .next (s.respond p .wrongState [])) ∧
    (s.regroup ≠ .pending → exec (.cancelRegroup p []) s = .next (s.respond p .wrongState [])) ∧
    (s.supervisor = p ∨ (∃ g, s.affected g = true ∧ s.chairAuth g = p) →
      (s.regroup ≠ .inStep → s.applied.Canonical → s.proposed.Canonical →
        ∃ u : State, exec (.confirmRegroup p []) s = .next (u.respond p .ok []) ∧ u = s.applyTopology.finish ∧
          u.applied = s.proposed ∧ u.regroup = .inStep ∧ s.KeepsBesideRegroup u) ∧
      (s.regroup = .pending →
        exec (.cancelRegroup p []) s =
          .next ((State.finish (({ s with regroup := .held } : State).post .topologyHeld none .none none)).respond p .ok []))) ∧
    (s.supervisor ≠ p → (∀ g, s.affected g = true → s.chairAuth g ≠ p) →
      (s.regroup ≠ .inStep → exec (.confirmRegroup p []) s = .next (s.respond p .notAuthority [])) ∧
      (s.regroup = .pending → exec (.cancelRegroup p []) s = .next (s.respond p .notAuthority [])))

/-! ## Profiles -/

/-- R21: a group's effective max_open is the smallest among the profiles its members select; every other field is that of the profile its
anchor selects. -/
def Obligations.EffectiveParameters : Prop :=
  ∀ (s : State) (g : Seg), s.applied.isAnchor g = true →
    (∀ x, s.applied.entry x = g → (s.params g).maxOpen ≤ (s.selected x).maxOpen) ∧
      (∃ x, s.applied.entry x = g ∧ (s.params g).maxOpen = (s.selected x).maxOpen) ∧
      { s.params g with maxOpen := (s.selected g).maxOpen } = s.selected g

/-- R24: what a value of each field is stored as: a number clamped to its range, a choice by its code, a code past the last choice
refused. R20, R22, R24: from the supervisor, a selection is stored for the segment, and a field of the record that the port's load select
names is written and answered with the value stored. The other selections and records stay, and a value already held changes nothing
further. Where effective parameters change: PARAMS_CHANGED with the changed fields and the change flag of each changed group, in ascending
anchor; then, group by group, the consequences: R25, R26 of max_open, R28 of priority_mode while a key is held, R31 and R13 of a
regroup_policy that became AUTO; R27, R29, R30 change nothing else now. R23, R32, served to every port: SET_LOAD_SELECT sets the issuing
port's own load select. READ_PROFILE answers with the nine fields of the record in the order of R19, the set of segments that select it
and the port's load select, and changes nothing. The set of segments is coded bit n for segment n (the model's reading, log entry 20),
consequences after one that applies a topology run on the records then at their anchors, and the value written is answered in two bytes
(the model's choices, log entries 43 and 44). -/
def Obligations.ProfileWrites : Prop :=
  (∀ (r : Profile) (n : Nat),
    r.write .maxOpen n = some { r with maxOpen := if n = 0 then 1 else if 8 < n then 8 else n } ∧
    r.write .speakLimit n =
      some { r with speakLimit := if n = 0 then 0 else if n < 10 then 10 else if 3600 < n then 3600 else n } ∧
    r.write .warnLead n = some { r with warnLead := if 120 < n then 120 else n } ∧
    r.write .underLevel n = some { r with underLevel := if 48 < n then 48 else n } ∧
    r.write .floorMode 0 = some { r with floorMode := .override } ∧
    r.write .floorMode 1 = some { r with floorMode := .queue } ∧
    r.write .floorMode 2 = some { r with floorMode := .chair } ∧ (2 < n → r.write .floorMode n = none) ∧
    r.write .limitAction 0 = some { r with limitAction := .close } ∧
    r.write .limitAction 1 = some { r with limitAction := .warn } ∧ (1 < n → r.write .limitAction n = none) ∧
    r.write .priorityMode 0 = some { r with priorityMode := .muteWhileHeld } ∧
    r.write .priorityMode 1 = some { r with priorityMode := .cancelAll } ∧ (1 < n → r.write .priorityMode n = none) ∧
    r.write .nomEnable 0 = some { r with nomEnable := false } ∧
    r.write .nomEnable 1 = some { r with nomEnable := true } ∧ (1 < n → r.write .nomEnable n = none) ∧
    r.write .regroupPolicy 0 = some { r with regroupPolicy := .auto } ∧
    r.write .regroupPolicy 1 = some { r with regroupPolicy := .armed } ∧ (1 < n → r.write .regroupPolicy n = none)) ∧
    (∀ (s : State) (p : PortId), s.Chief p →
    (∀ (x : Seg) (k : ProfileId),
      (s.select.entry x = k →
        exec (.setProfileSelect p [num x, BitVec.ofNat 8 k.code]) s = .next (s.respond p .ok [])) ∧
      (s.select.entry x ≠ k →
        ∃ u : State, exec (.setProfileSelect p [num x, BitVec.ofNat 8 k.code]) s = .next (u.respond p .ok []) ∧
          u.select.entry x = k ∧ (∀ y, y ≠ x → u.select.entry y = s.select.entry y) ∧ u.profiles = s.profiles ∧
          s.KeepsBesideRegroup { u with select := s.select } ∧
          (∀ t : State, t = { s with select := s.select.put x k } →
            u = (State.rederive s t).finish ∧
              ((∀ g, s.applied.isAnchor g = true → t.params g = s.params g) → u = t.finish)))) ∧
    ∀ (f : Field) (hi lo : Byte) (r : Profile),
      let k := (s.port p).load
      let c : Byte := BitVec.ofNat 8 (fields.idxOf f)
      let n := hi.toNat * 256 + lo.toNat
      let data := [c, BitVec.ofNat 8 (f.value r / 256), BitVec.ofNat 8 (f.value r)]
      ((s.profile k).write f n = none →
        exec (.writeProfileField p [c, hi, lo]) s = .next (s.respond p .badParam [])) ∧
      ((s.profile k).write f n = some r → s.profile k = r →
        exec (.writeProfileField p [c, hi, lo]) s = .next (s.respond p .ok data)) ∧
      ((s.profile k).write f n = some r → s.profile k ≠ r →
        ∃ u : State, exec (.writeProfileField p [c, hi, lo]) s = .next (u.respond p .ok data) ∧ u.profile k = r ∧
          (∀ k', k' ≠ k → u.profile k' = s.profile k') ∧ u.select = s.select ∧
          s.KeepsBesideRegroup { u with profiles := s.profiles } ∧
          (∀ t : State, t = s.setProfile k r →
            u = (State.rederive s t).finish ∧
              ((∀ g, s.applied.isAnchor g = true → t.params g = s.params g) → u = t.finish)))) ∧
    (∀ old s : State,
      let changed := (List.finRange 8).filter fun g => decide (s.applied.entry g = g ∧ s.params g ≠ old.params g)
      let fieldSet := fun g =>
        (if (s.params g).floorMode = (old.params g).floorMode then 0 else 1) +
          (if (s.params g).maxOpen = (old.params g).maxOpen then 0 else 2) +
          (if (s.params g).speakLimit = (old.params g).speakLimit then 0 else 4) +
          (if (s.params g).limitAction = (old.params g).limitAction then 0 else 8) +
          (if (s.params g).warnLead = (old.params g).warnLead then 0 else 16) +
          (if (s.params g).priorityMode = (old.params g).priorityMode then 0 else 32) +
          (if (s.params g).nomEnable = (old.params g).nomEnable then 0 else 64) +
          (if (s.params g).underLevel = (old.params g).underLevel then 0 else 128) +
          (if (s.params g).regroupPolicy = (old.params g).regroupPolicy then 0 else 256)
      let told := changed.foldl (fun t g => (t.post .paramsChanged (some g) .none (some (fieldSet g))).flagChange g) s
      State.rederive old s = changed.foldl
        (fun t g =>
          let sized :=
            if (s.params g).maxOpen < (old.params g).maxOpen then t.returnExcess g
            else if (old.params g).maxOpen < (s.params g).maxOpen then t.promote g else t
          let muted :=
            if (old.params g).priorityMode = (s.params g).priorityMode ∨ (sized.group g).hold = 0 then sized
            else if (s.params g).priorityMode = .cancelAll then sized.post .priorityMuteOff (some g) .none none
            else sized.post .priorityMuteOn (some g) .none none
          if (old.params g).regroupPolicy = .armed ∧ (s.params g).regroupPolicy = .auto ∧ muted.affected g = true ∧
              (muted.group g).session = .opened ∧ muted.regroup = .pending ∧ ∀ x, muted.heldOpen x = false then
            muted.applyTopology
          else muted) told) ∧
    (∀ (s : State) (g : Seg),
      let excess := ((s.openDelegates g).drop (s.params g).maxOpen).reverse
      let returned := excess.foldl
        (fun t i => match (t.seat i).slot with
          | none => t.returnSeat g i
          | some k => (t.returnSeat g i).offerSlot (lineOf i) k) s
      s.returnExcess g = (((returned.group g).waiting.drop 48).reverse).foldl
        (fun t i => ((((t.setGroup g fun r => { r with waiting := r.waiting.filter (· != i) }).setSeat i fun q =>
          { q with floor := .idle, requestStamp := none }).setLight i .off).post .requestDropped (some g) (.seat i) none)) returned) ∧
    ∀ (s : State) (p : PortId) (k : ProfileId), s.Ready p →
    exec (.setLoadSelect p [BitVec.ofNat 8 k.code]) s =
      .next ((s.setPort p fun r => { r with load := k }).respond p .ok [BitVec.ofNat 8 k.code]) ∧
    exec (.readProfile p [BitVec.ofNat 8 k.code]) s =
      .next (s.respond p .ok
        ([BitVec.ofNat 8 (s.profile k).floorMode.code, BitVec.ofNat 8 (s.profile k).maxOpen,
            BitVec.ofNat 8 ((s.profile k).speakLimit / 256), BitVec.ofNat 8 (s.profile k).speakLimit,
            BitVec.ofNat 8 (s.profile k).limitAction.code, BitVec.ofNat 8 (s.profile k).warnLead,
            BitVec.ofNat 8 (s.profile k).priorityMode.code, if (s.profile k).nomEnable then 1 else 0,
            BitVec.ofNat 8 (s.profile k).underLevel, BitVec.ofNat 8 (s.profile k).regroupPolicy.code] ++
          [segSet fun x => decide (s.select.entry x = k), BitVec.ofNat 8 (s.port p).load.code]))


/-! ## Lines and seats -/

/-- R34, R35: the supervisor enumerates a line: BUSY while it is ADDRESSING or VERIFYING, IN_USE without force while a seat of it is
WAITING or OPEN, else ACCEPTED. R35, in order: SEAT_LOST and the withdrawal with cause LOST of each WAITING seat of the line, SEAT_LOST
and the close with cause LOST of each OPEN one, in ascending address; the release of each HELD key; the seat rows; the line record. The
line is then ADDRESSING with its record cleared but for the counters, every seat of it is UNUSED and IDLE with its light OFF and its key
RELEASED, and keeps its configuration and kind; the configuration and link of no other seat changes. The seat commands of a forced close
go out before the line is ADDRESSING (the model's reading, log entry 16), and the HELD keys are released in ascending address (the model's
choice, log entry 42). -/
def Obligations.EnumerateLine : Prop :=
  ∀ (s : State) (p : PortId) (l : LineId) (verify force : Bool), s.Chief p →
    let command := Instr.enumerateLine p [num l, if verify then 1 else 0, if force then 1 else 0]
    let busy := (s.line l).state = .addressing ∨ (s.line l).state = .verifying
    let inUse := ∃ i, lineOf i = l ∧ (s.seat i).floor ≠ .idle
    (busy → exec command s = .next (s.respond p .busy [])) ∧
    (¬busy → inUse → force = false → exec command s = .next (s.respond p .inUse [])) ∧
    (¬busy → ¬inUse ∨ force = true →
      let lose := fun (t : State) (i : SeatId) =>
        let told := t.post .seatLost (t.groupOf i) (.seat i) none
        match t.groupOf i, (t.seat i).floor with
        | some g, .waiting => told.withdraw g i .lost
        | some g, .opened => told.close g i .lost
        | _, _ => told
      let drop := fun (t : State) (i : SeatId) =>
        let released := t.setSeat i fun q => { q with keyHeld := false }
        if (t.seat i).keyHeld = true then
          match t.groupOf i with
          | none => released
          | some g => released.priorityRelease g
        else t
      let withdrawn := ((seatsOf l).filter fun i => decide ((s.seat i).floor = .waiting)).foldl lose s
      let closed := ((seatsOf l).filter fun i => decide ((withdrawn.seat i).floor = .opened)).foldl lose withdrawn
      let dropped := (seatsOf l).foldl drop closed
      let cleared : State :=
        { dropped with
          seats := dropped.seats.mapEntries fun i q =>
            if lineOf i = l then { q with link := .unused, missed := 0, floor := .idle, light := .off } else q }
      ∃ u : State, exec command s = .next (u.respond p .accepted []) ∧
        u = State.finish (cleared.setLine l fun r =>
          { r with
            state := .addressing, fault := .none, unitCount := 0, position := 0, verifyRound := 0, verify := verify
            slots := Vector.replicate 8 none }) ∧
        u.line l =
          { s.line l with
            state := .addressing, fault := .none, unitCount := 0, position := 0, verifyRound := 0, verify := verify
            slots := Vector.replicate 8 none } ∧
        (∀ m, m ≠ l → { u.line m with slots := (s.line m).slots } = s.line m) ∧
        (∀ i, lineOf i = l → (u.seat i).link = .unused ∧ (u.seat i).missed = 0 ∧ (u.seat i).floor = .idle ∧
          (u.seat i).light = .off ∧ (u.seat i).keyHeld = false) ∧
        (∀ i, lineOf i ≠ l → (u.seat i).link = (s.seat i).link ∧ (u.seat i).missed = (s.seat i).missed ∧
          (u.seat i).keyHeld = (s.seat i).keyHeld) ∧
        (∀ i, (u.seat i).kind = (s.seat i).kind) ∧ s.KeepsBesideLines u ∧
        (¬inUse → ∀ i, lineOf i ≠ l → u.seat i = s.seat i))

/-- R36, R37: in ADDRESSING an acknowledge of the address offered moves the position: with the chain-end flag the line is addressed and
goes to VERIFYING or RUNNING, at 64 without it the chain is open and the line faulty. A step timeout is a break at the address offered: at
1 the line is faulty, later it goes to VERIFYING or RUNNING with the units before the break. Every other acknowledge is disregarded. R39:
the supervisor cancels an operation: an ADDRESSING line goes to DOWN, a VERIFYING line to RUNNING with LINE_READY, after LINE_CANCELLED
where notify is on; a line in another state answers WRONG_STATE. Timeouts outside ADDRESSING do nothing (the model's reading, log entry
33), the poll position is the model's choice (log entry 6), and a verification that is cancelled keeps its verify round (the model's
reading, log entry 25). -/
def Obligations.Addressing : Prop :=
  (∀ (s : State) (l : LineId),
    (∀ (a : Byte) (chainEnd : Bool), (s.line l).state = .addressing → a.toNat = (s.line l).position + 1 →
      exec (.addressingAcknowledge l a chainEnd) s =
        .next (State.finish
          (match chainEnd, (s.line l).verify with
            | true, true => s.setLine l fun r =>
                { r with position := a.toNat, unitCount := a.toNat, state := .verifying, poll := 1, verifyRound := 0 }
            | true, false =>
              (s.setLine l fun r =>
                { r with position := a.toNat, unitCount := a.toNat, state := .running, poll := 1 }).post
                .lineReady none (.line l) (some a.toNat)
            | false, _ =>
              if a.toNat < 64 then s.setLine l fun r => { r with position := a.toNat }
              else
                (s.setLine l fun r =>
                  { r with position := a.toNat, state := .fault, fault := .chainOpen, unitCount := 0 }).post
                  .lineFault none (.line l) (some 512)))) ∧
    (∀ (a : Byte) (chainEnd : Bool), (s.line l).state ≠ .addressing ∨ a.toNat ≠ (s.line l).position + 1 →
      exec (.addressingAcknowledge l a chainEnd) s = .next s) ∧
    ((s.line l).state ≠ .addressing → exec (.stepTimeout l) s = .next s) ∧
    ((s.line l).state = .addressing →
      let a := (s.line l).position + 1
      let broken := fun (x : LineState) => s.setLine l fun r =>
        { r with fault := .chainBreak a, unitCount := a - 1, state := x }
      exec (.stepTimeout l) s =
        .next (State.finish
          (if a = 1 then (broken .fault).post .lineFault none (.line l) (some (256 + a))
            else if (s.line l).verify = true then
              ((broken .verifying).setLine l fun r => { r with poll := 1, verifyRound := 0 }).post
                .lineFault none (.line l) (some (256 + a))
            else
              (((broken .running).setLine l fun r => { r with poll := 1 }).post
                .lineFault none (.line l) (some (256 + a))).post .lineReady none (.line l) (some (a - 1)))))) ∧
    ∀ (s : State) (p : PortId) (l : LineId) (notify : Bool), s.Chief p →
    let command := Instr.cancelLineOperation p [num l, if notify then 1 else 0]
    let told := if notify then s.post .lineCancelled none (.line l) none else s
    ((s.line l).state = .addressing →
      exec command s =
        .next ((State.finish (told.setLine l fun r =>
          { r with state := .down, unitCount := 0, position := 0 })).respond p .ok [])) ∧
    ((s.line l).state = .verifying →
      exec command s =
        .next ((State.finish ((told.setLine l fun r => { r with state := .running, poll := 1 }).post
          .lineReady none (.line l) (some (s.line l).unitCount))).respond p .ok [])) ∧
    ((s.line l).state ≠ .addressing → (s.line l).state ≠ .verifying →
      exec command s = .next (s.respond p .wrongState []))

/-- R38, R42 to R44: a reply on a line that polls. A failed check is counted and does no more; a wrong address or unit kind is discarded.
A valid reply leaves its seat ONLINE with the kind it carries and no missed rounds, and keeps its configuration, and the next address is
polled. R43, R46: an UNUSED or LOST seat comes ONLINE with its light OFF, SEAT_ONLINE and the starting commands MIC_OFF, LIGHT and
SPEAKER. In RUNNING an ONLINE seat of another kind is first lost (R45), and in VERIFYING it takes the kind and is announced again. In
VERIFYING keys are discarded; in RUNNING an ONLINE seat of the recorded kind hands over its keys, the priority key of a chair first, and
of a seat that just came ONLINE the priority key alone. A discarded reply leaves the reply window open (the model's choice, log entry 6),
and a seat that comes ONLINE starts from light OFF (the model's reading, log entry 31). -/
def Obligations.SeatReplies : Prop :=
  ∀ (s : State) (l : LineId) (a k f c d : Byte),
    let reply := [a, k, f, c, d]
    let polls := (s.line l).state = .verifying ∨ (s.line l).state = .running
    let i := seatAt l (s.line l).poll
    let bad := a.toNat ≠ (s.line l).poll ∨ (k ≠ 1 ∧ k ≠ 2)
    (¬polls → exec (.seatReply l reply) s = .next s) ∧
    (polls → crc16 reply ≠ 0 →
      exec (.seatReply l reply) s = .next (s.setLine l fun r => { r with badCrc := min (r.badCrc + 1) 65535 })) ∧
    (polls → crc16 reply = 0 → bad → exec (.seatReply l reply) s = .next s) ∧
    (polls → crc16 reply = 0 → ¬bad →
      let kind : UnitKind := if k = 1 then .delegate else .chair
      let held := f.getLsbD 1
      let reported := fun (u : State) (down : Bool) => match s.groupOf i with
        | none => u
        | some g => if down then u.priorityPress g else u.priorityRelease g
      let keyed := fun u : State =>
        if kind = .chair ∧ (u.seat i).keyHeld ≠ held then
          reported (u.setSeat i fun q => { q with keyHeld := held }) held
        else u
      let announced := fun u : State =>
        let speaker := if (u.seat i).floor = .opened then none else s.groupOf i
        let told := u.post .seatOnline (s.groupOf i) (.seat i) (some (if k = 1 then 1 else 2))
        ({ told with
          downlink := told.downlink.alter l fun sent =>
            sent ++ [⟨addressOf i, .micOff⟩, ⟨addressOf i, .light (u.seat i).light⟩, ⟨addressOf i, .speaker speaker⟩] } : State).setSeat
          i fun q => { q with speaker := speaker }
      let online := fun u : State =>
        announced (u.setSeat i fun q => { q with link := .online, kind := kind, missed := 0, light := .off })
      let lost :=
        let u := (s.setSeat i fun q => { q with link := .lost }).post .seatLost (s.groupOf i) (.seat i) none
        let v := if (s.seat i).keyHeld = true then reported (u.setSeat i fun q => { q with keyHeld := false }) false else u
        match s.groupOf i, (v.seat i).floor with
        | some g, .waiting => v.withdraw g i .lost
        | some g, .opened => v.close g i .lost
        | _, _ => v
      let heard := s.setSeat i fun q => { q with missed := 0 }
      let taken :=
        if (s.line l).state = .running then
          if (s.seat i).link ≠ .online then keyed (online s)
          else if (s.seat i).kind ≠ kind then keyed (online lost)
          else if f.getLsbD 0 = true then (keyed heard).talkPress i else keyed heard
        else if (s.seat i).link ≠ .online then online s
        else if (s.seat i).kind ≠ kind then announced (heard.setSeat i fun q => { q with kind := kind })
        else heard
      let t := (taken.advancePoll l).finish
      exec (.seatReply l reply) s = .next t ∧
        (t.seat i).link = .online ∧ (t.seat i).kind = kind ∧ (t.seat i).missed = 0 ∧
        ((s.seat i).link ≠ .online → (s.seat i).floor = .idle → (∀ g, i ∉ (s.group g).waiting) → (t.seat i).light = .off) ∧
        s.KeepsBesideLines t ∧
        (∀ j, j ≠ i → (t.seat j).link = (s.seat j).link ∧ (t.seat j).kind = (s.seat j).kind ∧
          (t.seat j).missed = (s.seat j).missed ∧ (t.seat j).keyHeld = (s.seat j).keyHeld) ∧
        (∀ m, m ≠ l → { t.line m with slots := (s.line m).slots } = s.line m) ∧
        ((s.line l).state = .verifying → (t.seat i).floor = (s.seat i).floor ∧ (t.seat i).keyHeld = (s.seat i).keyHeld) ∧
        ((s.line l).state = .running → kind = .chair → (t.seat i).keyHeld = held))

/-- R45: a poll of an ONLINE seat in RUNNING without a valid reply is counted; at the second the seat is LOST, with SEAT_LOST, a HELD key
is RELEASED and the release reported in its group, then a WAITING seat is withdrawn and an OPEN one closed, with cause LOST, and becomes
IDLE. Any other poll without a valid reply only passes to the next address. R38, R41: the poll after an address below the unit count is
the next address. A round that ends begins again at address 1; the second round of a verification ends it, with VERIFY_FAIL for each
polled seat that is not ONLINE, in ascending address, and LINE_READY. The poll position is the model's choice (log entry 6), and the
verify round that stays 2 its reading (log entry 25). -/
def Obligations.MissedPolls : Prop :=
  (∀ (s : State) (l : LineId),
    let polls := (s.line l).state = .verifying ∨ (s.line l).state = .running
    let i := seatAt l (s.line l).poll
    let counts := (s.line l).state = .running ∧ (s.seat i).link = .online
    (¬polls → exec (.replyWindowExpiry l) s = .next s) ∧
    (polls → ¬counts → exec (.replyWindowExpiry l) s = .next (s.advancePoll l).finish) ∧
    (counts → (s.seat i).missed = 0 →
      exec (.replyWindowExpiry l) s =
        .next (State.advancePoll (s.setSeat i fun q => { q with missed := 1 }) l).finish) ∧
    (counts → (s.seat i).missed = 1 →
      let told := (s.setSeat i fun q => { q with missed := 2, link := .lost }).post .seatLost (s.groupOf i) (.seat i) none
      let released := told.setSeat i fun q => { q with keyHeld := false }
      let heard :=
        if (s.seat i).keyHeld = true then
          match s.groupOf i with
          | none => released
          | some g => released.priorityRelease g
        else told
      let lost :=
        match s.groupOf i, (heard.seat i).floor with
        | some g, .waiting => heard.withdraw g i .lost
        | some g, .opened => heard.close g i .lost
        | _, _ => heard
      ∃ t : State, exec (.replyWindowExpiry l) s = .next t ∧ t = (lost.advancePoll l).finish ∧ (t.seat i).link = .lost ∧ (t.seat i).missed = 2 ∧
        (t.seat i).keyHeld = false ∧ (t.seat i).kind = (s.seat i).kind ∧ s.KeepsBesideLines t ∧
        (∀ j, j ≠ i → (t.seat j).link = (s.seat j).link ∧ (t.seat j).kind = (s.seat j).kind ∧
          (t.seat j).missed = (s.seat j).missed ∧ (t.seat j).keyHeld = (s.seat j).keyHeld) ∧
        (∀ m, m ≠ l → { t.line m with slots := (s.line m).slots } = s.line m) ∧
        ((s.seat i).floor = .idle → (t.seat i).floor = .idle) ∧
        ∀ g, s.groupOf i = some g → i ∉ (s.group g).waiting ∨ (s.seat i).floor = .waiting → (t.seat i).floor = .idle)) ∧
    ∀ (s : State) (l : LineId),
    ((s.line l).poll < (s.line l).unitCount →
      s.advancePoll l = s.setLine l fun r => { r with poll := r.poll + 1 }) ∧
    ((s.line l).unitCount ≤ (s.line l).poll → (s.line l).state = .running →
      s.advancePoll l = s.setLine l fun r => { r with poll := 1 }) ∧
    ((s.line l).unitCount ≤ (s.line l).poll → (s.line l).state = .verifying → (s.line l).verifyRound = 0 →
      s.advancePoll l = s.setLine l fun r => { r with poll := 1, verifyRound := 1 }) ∧
    ((s.line l).unitCount ≤ (s.line l).poll → (s.line l).state = .verifying → (s.line l).verifyRound = 1 →
      s.advancePoll l =
        ((((seatsOf l).filter fun i => decide (addressOf i ≤ (s.line l).unitCount ∧ (s.seat i).link ≠ .online)).foldl
          (fun t i => t.post .verifyFail none (.seat i) none) s).setLine l fun r =>
            { r with state := .running, poll := 1, verifyRound := 2 }).post
          .lineReady none (.line l) (some (s.line l).unitCount))

/-- R52: the supervisor sets an IDLE seat's segment; a WAITING or OPEN seat answers IN_USE, and the segment the seat has changes nothing.
The speaker setting is formed again; a chair's held key is released in its old group and then pressed in its new one. R53: SET_SEAT_TRIM,
judged on fence, supervisor and seat, stores the trim, a signed byte clamped to −12 to +24, in every floor state, and answers with it; the
targets are formed again. R54: SET_SEAT_MASK, judged on fence, supervisor, seat and flag, stores the mask and changes nothing else.
SPEAKER is sent where the setting changed (the model's reading, log entry 21). -/
def Obligations.SeatConfiguration : Prop :=
  (∀ (s : State) (p : PortId) (i : SeatId) (hi lo : Byte) (x : Option Seg), s.Chief p → hi.toNat * 256 + lo.toNat = i.val →
    let command := Instr.setSeatSegment p [hi, lo, match x with | none => 255 | some y => num y]
    let moved := State.reformSpeaker (s.setSeat i fun q => { q with segment := x }) i
    ((s.seat i).floor ≠ .idle → exec command s = .next (s.respond p .inUse [])) ∧
    ((s.seat i).floor = .idle → (s.seat i).segment = x → exec command s = .next (s.respond p .ok [])) ∧
    ((s.seat i).floor = .idle → (s.seat i).segment ≠ x →
      ∃ u : State, exec command s = .next (u.respond p .ok []) ∧ (u.seat i).segment = x ∧
        ((s.seat i).keyHeld = false ∨ (s.seat i).kind = .delegate → u = moved.finish ∧ ∀ j, j ≠ i → u.seat j = s.seat j) ∧
        ((s.seat i).keyHeld = true → (s.seat i).kind = .chair →
          let released := match (s.seat i).segment with
            | none => moved
            | some y => moved.priorityRelease (s.applied.entry y)
          u = State.finish (match x with
            | none => released
            | some y => released.priorityPress (s.applied.entry y))))) ∧
    (∀ (s : State) (p : PortId) (hi lo v : Byte), s.Ready p →
    let command := Instr.setSeatTrim p [hi, lo, v]
    ((s.port p).fenced = true → exec command s = .next (s.respond p .fenced [])) ∧
    ((s.port p).fenced = false → s.supervisor ≠ p → exec command s = .next (s.respond p .notAuthority [])) ∧
    (s.Chief p → 255 < hi.toNat * 256 + lo.toNat → exec command s = .next (s.respond p .noSuch [])) ∧
    (s.Chief p → ∀ i : SeatId, hi.toNat * 256 + lo.toNat = i.val →
      let trim : Int := if v.toInt < -12 then -12 else if 24 < v.toInt then 24 else v.toInt
      exec command s =
        .next ((State.finish (s.setSeat i fun q => { q with trim := trim })).respond p .ok [BitVec.ofInt 8 trim]))) ∧
    ∀ (s : State) (p : PortId) (hi lo v : Byte), s.Ready p →
    let command := Instr.setSeatMask p [hi, lo, v]
    ((s.port p).fenced = true → exec command s = .next (s.respond p .fenced [])) ∧
    ((s.port p).fenced = false → s.supervisor ≠ p → exec command s = .next (s.respond p .notAuthority [])) ∧
    (s.Chief p → 255 < hi.toNat * 256 + lo.toNat → exec command s = .next (s.respond p .noSuch [])) ∧
    (s.Chief p → ∀ i : SeatId, hi.toNat * 256 + lo.toNat = i.val →
      (v ≠ 0 → v ≠ 1 → exec command s = .next (s.respond p .badParam [])) ∧
      (v = 0 → exec command s = .next ((s.setSeat i fun q => { q with mask := false }).respond p .ok [])) ∧
      (v = 1 → exec command s = .next ((s.setSeat i fun q => { q with mask := true }).respond p .ok [])))

/-- R51, R61, R63: the slot arbiter of a line chooses, among its WAITING seats whose group has its session OPEN, floor mode QUEUE and
room, the one of lowest request stamp; it chooses one wherever there is one and the counter is not exhausted. A slot offered to the
arbiter is granted to its choice, or left free. R63: while a promotion pass may run it grants, step by step, the first seat of the waiting
list whose line has a free slot, with the lowest free slot of that line (R49). A promotion pass ends only where the session is not OPEN,
the mode is not QUEUE, the counter is exhausted, there is no room or no waiting seat has a free slot on its line. An exhausted counter is
announced where its last value is issued, ahead of SEAT_GRANTED (the model's reading, log entry 13). -/
def Obligations.ArbiterAndPromotion : Prop :=
  ∀ (s : State) (l : LineId),
    let claims := fun i => lineOf i = l ∧ (s.seat i).floor = .waiting ∧ ∃ g, s.groupOf i = some g ∧
      (s.group g).session = .opened ∧ (s.params g).floorMode = .queue ∧ (s.openDelegates g).length < (s.params g).maxOpen
    (∀ i, s.arbiterChoice l = some i → claims i ∧ s.stamp < 4294967295 ∧
      ∀ j, claims j → (s.seat i).requestStamp.getD 0 ≤ (s.seat j).requestStamp.getD 0) ∧
    ((∃ i, claims i) → s.stamp < 4294967295 → (s.arbiterChoice l).isSome) ∧
    (∀ k : SlotNo,
      (s.freeSlot l = some k ↔
        (s.line l).slots.entry k = none ∧ ∀ k', k' < k → (s.line l).slots.entry k' ≠ none) ∧
      (s.arbiterChoice l = none → s.offerSlot l k = s) ∧
      (∀ i g, s.arbiterChoice l = some i → s.groupOf i = some g → s.Granted g i k (s.offerSlot l k)) ∧
      (s.offerSlot l k).floorFrame = s.floorFrame) ∧
    ∀ g : Seg,
      let t := s.promote g
      t.floorFrame = s.floorFrame ∧
        ((s.group g).session = .closed ∨ (s.params g).floorMode ≠ .queue ∨ 4294967295 ≤ s.stamp → t = s) ∧
        ((t.group g).session = .opened → (t.params g).floorMode = .queue → t.stamp < 4294967295 →
          (t.openDelegates g).length < (t.params g).maxOpen → ∀ i ∈ (t.group g).waiting, t.freeSlot (lineOf i) = none) ∧
        ((s.openDelegates g).length ≥ (s.params g).maxOpen ∨ (∀ i ∈ (s.group g).waiting, s.freeSlot (lineOf i) = none) → t = s) ∧
        ((s.group g).session = .opened → (s.params g).floorMode = .queue → s.stamp < 4294967295 →
          (s.openDelegates g).length < (s.params g).maxOpen → ∀ (before after : List SeatId) (i : SeatId) (k : SlotNo),
          (s.group g).waiting = before ++ i :: after → (∀ j ∈ before, s.freeSlot (lineOf j) = none) →
          s.freeSlot (lineOf i) = some k → ∃ u : State, s.Granted g i k u ∧ t = u.promote g)

/-! ## The floor -/

/-- R67, R120, R68: the chair authority opens a CLOSED session (its slots are served in list order, then SESSION_OPENED) and closes an
OPEN one: the list is withdrawn, the open set closed with cause SESSION, the slots given up in two passes (the group's QUEUED slots leave
the wait queue without notice, then the ALLOCATED ones release their channels in list order, floor first), SESSION_CLOSED posted with the
number withdrawn, and a pending hold re-examined. Where no regroup is pending, the closed group has no list and no set, its seats are
IDLE, no slot of it waits, and its hold count, languages and fader stay. -/
def Obligations.Sessions : Prop :=
  ∀ (s : State) (p : PortId) (g : Seg), s.Chairs p g →
    ((s.group g).session = .opened → exec (.openSession p [num g]) s = .next (s.respond p .wrongState [])) ∧
    ((s.group g).session = .closed → exec (.closeSession p [num g]) s = .next (s.respond p .wrongState [])) ∧
    ((s.group g).session = .closed →
      ∃ t : State, exec (.openSession p [num g]) s = .next (t.finish.respond p .ok []) ∧
        t = ((((0 :: (s.group g).langs).foldl (fun u l => u.serve s.liveOutputs ⟨g, l⟩)
          (s.setGroup g fun r => { r with session := .opened })).post .sessionOpened (some g) .none none).flagChange g) ∧
        t.group g = { s.group g with session := .opened } ∧ (∀ g', g' ≠ g → t.group g' = s.group g') ∧
        s.KeepsPorts t ∧
        { t with
          groups := s.groups, channels := s.channels, waitQueue := s.waitQueue, gains := s.gains, ports := s.ports } = s) ∧
    ((s.group g).session = .opened →
      ∃ t : State, exec (.closeSession p [num g]) s = .next (t.finish.respond p .ok []) ∧
        (∀ w : State, w = (s.setGroup g fun r => { r with session := .closed }).withdrawAll g →
          let closed := (s.group g).openSet.foldl (fun u i => u.close g i .session) w
          let unqueued : State := { closed with waitQueue := closed.waitQueue.filter fun n => decide (n.group ≠ g) }
          let released := (0 :: (closed.group g).langs).foldl
            (fun u l =>
              match (List.finRange 32).find? fun c => decide ((u.channel c).owner = some ⟨g, l⟩) with
              | none => u
              | some c => u.release closed.liveOutputs c g l) unqueued
          t = State.reexamine ((released.post .sessionClosed (some g) .none (some (s.group g).waiting.length)).flagChange g)) ∧
        (s.regroup ≠ .pending →
          t.group g = { s.group g with session := .closed, waiting := [], openSet := [] } ∧
          (∀ g', g' ≠ g → { t.group g' with waiting := (s.group g').waiting, openSet := (s.group g').openSet } = s.group g') ∧
          (∀ i, i ∈ (s.group g).waiting ∨ i ∈ (s.group g).openSet → (t.seat i).floor = .idle) ∧
          (∀ n ∈ t.waitQueue, n.group ≠ g) ∧ s.KeepsPorts t ∧
          { t with
            lines := s.lines, seats := s.seats, groups := s.groups, stamp := s.stamp, downlink := s.downlink
            channels := s.channels, waitQueue := s.waitQueue, gains := s.gains, ports := s.ports } = s))

/-- R62, R78: GRANT_NEXT grants the first waiting seat whose line has a free slot, GRANT_SEAT the named WAITING seat, with the lowest free
slot of its line, and answers with seat and slot. Checked in order: an OPEN session, something to grant, a counter not exhausted, room, a
slot. An exhausted counter is announced where its last value is issued (the model's reading, log entry 13). -/
def Obligations.Grants : Prop :=
  ∀ (s : State) (p : PortId) (g : Seg), s.Chairs p g →
    let room := (s.openDelegates g).length < (s.params g).maxOpen
    ((s.group g).session = .closed → exec (.grantNext p [num g]) s = .next (s.respond p .wrongState [])) ∧
    ((s.group g).waiting = [] → exec (.grantNext p [num g]) s = .next (s.respond p .wrongState [])) ∧
    ((s.group g).session = .opened → (s.group g).waiting ≠ [] →
      (4294967295 ≤ s.stamp → exec (.grantNext p [num g]) s = .next (s.respond p .wrongState [])) ∧
      (s.stamp < 4294967295 → ¬room → exec (.grantNext p [num g]) s = .next (s.respond p .full [])) ∧
      (s.stamp < 4294967295 → room → (∀ i ∈ (s.group g).waiting, s.freeSlot (lineOf i) = none) →
        exec (.grantNext p [num g]) s = .next (s.respond p .noSlot [])) ∧
      ∀ (before after : List SeatId) (i : SeatId) (k : SlotNo), s.stamp < 4294967295 → room →
        (s.group g).waiting = before ++ i :: after → (∀ j ∈ before, s.freeSlot (lineOf j) = none) →
        s.freeSlot (lineOf i) = some k →
        ∃ t : State, s.Granted g i k t ∧
          exec (.grantNext p [num g]) s =
            .next (t.finish.respond p .ok [BitVec.ofNat 8 (i.val / 256), BitVec.ofNat 8 i.val, num k])) ∧
    ∀ (hi lo : Byte) (i : SeatId), hi.toNat * 256 + lo.toNat = i.val →
      (s.groupOf i ≠ some g → exec (.grantSeat p [num g, hi, lo]) s = .next (s.respond p .noSuch [])) ∧
      (s.groupOf i = some g → (s.group g).session = .closed ∨ (s.seat i).floor ≠ .waiting ∨ 4294967295 ≤ s.stamp →
        exec (.grantSeat p [num g, hi, lo]) s = .next (s.respond p .wrongState [])) ∧
      (s.groupOf i = some g → (s.group g).session = .opened → (s.seat i).floor = .waiting → s.stamp < 4294967295 →
        (¬room → exec (.grantSeat p [num g, hi, lo]) s = .next (s.respond p .full [])) ∧
        (room → s.freeSlot (lineOf i) = none → exec (.grantSeat p [num g, hi, lo]) s = .next (s.respond p .noSlot [])) ∧
        ∀ k, room → s.freeSlot (lineOf i) = some k →
          ∃ t : State, s.Granted g i k t ∧
            exec (.grantSeat p [num g, hi, lo]) s =
              .next (t.finish.respond p .ok [BitVec.ofNat 8 (i.val / 256), BitVec.ofNat 8 i.val, num k]))

/-- R64, R65, R79: CLOSE_SEAT closes an OPEN seat with cause COMMAND, offers its freed slot to the arbiter of its line, and after a
delegate runs a promotion pass on its group. CANCEL_REQUEST withdraws a WAITING seat with cause COMMAND. A seat of another group is
NO_SUCH, and one in another floor state is WRONG_STATE. -/
def Obligations.SeatCloses : Prop :=
  ∀ (s : State) (p : PortId) (g : Seg) (hi lo : Byte) (i : SeatId), s.Chairs p g → hi.toNat * 256 + lo.toNat = i.val →
    (s.groupOf i ≠ some g →
      exec (.closeSeat p [num g, hi, lo]) s = .next (s.respond p .noSuch []) ∧
        exec (.cancelRequest p [num g, hi, lo]) s = .next (s.respond p .noSuch [])) ∧
    (s.groupOf i = some g →
      ((s.seat i).floor ≠ .opened → exec (.closeSeat p [num g, hi, lo]) s = .next (s.respond p .wrongState [])) ∧
      ((s.seat i).floor ≠ .waiting → exec (.cancelRequest p [num g, hi, lo]) s = .next (s.respond p .wrongState [])) ∧
      ((s.seat i).floor = .opened →
        ∃ t : State, s.Closed g i .command t ∧
          exec (.closeSeat p [num g, hi, lo]) s =
            .next ((State.finish (
              let offered := match (s.seat i).slot with
                | none => t
                | some k => t.offerSlot (lineOf i) k
              if (s.seat i).kind = .delegate then offered.promote g else offered)).respond p .ok [])) ∧
      ((s.seat i).floor = .waiting →
        ∃ t : State, s.Withdrawn g i .command t ∧
          exec (.cancelRequest p [num g, hi, lo]) s = .next (t.finish.respond p .ok [])))

/-- R80: CLOSE_ALL closes every OPEN delegate with cause COMMAND in ascending grant stamp and answers with their number; chairs stay OPEN,
and a closed seat that does not wait stays IDLE. CLEAR_LIST withdraws every seat of the list, sends each its light, posts LIST_CLEARED
once and answers with the number. Both are WRONG_STATE in a CLOSED session. -/
def Obligations.BulkCloses : Prop :=
  ∀ (s : State) (p : PortId) (g : Seg), s.Chairs p g →
    ((s.group g).session = .closed →
      exec (.closeAll p [num g]) s = .next (s.respond p .wrongState []) ∧
        exec (.clearList p [num g]) s = .next (s.respond p .wrongState [])) ∧
    ((s.group g).session = .opened →
      let n := (s.group g).waiting.length
      (∃ t : State,
        exec (.closeAll p [num g]) s =
          .next (t.finish.respond p .ok [BitVec.ofNat 8 (s.openDelegates g).length]) ∧
        t = (s.openDelegates g).foldl (fun u i => u.close g i .command) s ∧
        (∀ i, (s.seat i).kind = .chair → (s.seat i).floor = .opened → (t.seat i).floor = .opened) ∧
        (∀ i ∈ s.openDelegates g, i ∉ (s.group g).waiting → (t.seat i).floor = .idle) ∧
        t.floorFrame = s.floorFrame) ∧
      ∃ t : State,
        exec (.clearList p [num g]) s = .next (t.finish.respond p .ok [BitVec.ofNat 8 n]) ∧
        t.group g = { s.group g with waiting := [] } ∧ (∀ g', g' ≠ g → t.group g' = s.group g') ∧
        (∀ i, t.seat i =
          if i ∈ (s.group g).waiting then { s.seat i with floor := .idle, requestStamp := none, light := .off }
          else s.seat i) ∧
        (∀ l, t.downlink.entry l =
          s.downlink.entry l ++
            ((s.group g).waiting.filter fun i => decide (lineOf i = l) && s.reachable i).map fun i =>
              { address := addressOf i, order := .light .off }) ∧
        t.ports = (s.post .listCleared (some g) .none (some n)).ports ∧
        { t with groups := s.groups, seats := s.seats, downlink := s.downlink, ports := s.ports } = s)

/-- R69 to R73, R61: what a talk press of a delegate does in its group: nothing in a CLOSED session but for a BLOCKED light; a WAITING
seat is withdrawn and an OPEN one closed, with cause KEY; an IDLE one is refused when masked or when the counter is exhausted, and else
joins the list or is granted as the floor mode gives, its request stamp taken first. A full list refuses with LIST_FULL. A refused press
sends its light each time, and an exhausted counter is announced where its last value is issued (the model's reading, log entries 13 and
15). -/
def Obligations.DelegatePresses : Prop :=
  ∀ (s : State) (i : SeatId) (g : Seg), s.groupOf i = some g → (s.seat i).kind = .delegate →
    let free := s.freeSlot (lineOf i)
    let room := (s.openDelegates g).length < (s.params g).maxOpen
    let mode := (s.params g).floorMode
    let asks := (s.group g).session = .opened ∧ (s.seat i).floor = .idle ∧ (s.seat i).mask = false
    let asked := s.takeStamp.setSeat i fun q => { q with requestStamp := some s.stamp }
    let joins := ((s.group g).waiting.length < 48 → s.Joined g i (s.talkPress i)) ∧
      (48 ≤ (s.group g).waiting.length →
        s.talkPress i = (s.setLight i .blocked).post .listFull (some g) (.seat i) none)
    ((s.group g).session = .closed → s.talkPress i = if (s.seat i).light = .blocked then s.setLight i .off else s) ∧
    ((s.group g).session = .opened → (s.seat i).floor = .waiting → s.Withdrawn g i .key (s.talkPress i)) ∧
    ((s.group g).session = .opened → (s.seat i).floor = .opened → s.talkPress i = s.close g i .key) ∧
    ((s.group g).session = .opened → (s.seat i).floor = .idle → (s.seat i).mask = true ∨ 4294967295 ≤ s.stamp →
      s.talkPress i = s.setLight i .blocked) ∧
    (asks → s.stamp = 4294967294 → joins) ∧
    (asks → s.stamp < 4294967294 →
      (mode = .chair → joins) ∧
      (mode = .queue → ¬room ∨ free = none → joins) ∧
      (mode = .queue ∨ mode = .override → room → ∀ k, free = some k → s.talkPress i = asked.grant g i k) ∧
      (mode = .override → free = none → (∀ j ∈ s.openDelegates g, lineOf j ≠ lineOf i) → joins) ∧
      (mode = .override → ∀ (before after : List SeatId) (v : SeatId) (k : SlotNo),
        s.openDelegates g = before ++ v :: after → v ≠ i → (s.seat v).slot = some k → lineOf v = lineOf i →
        (free = none ∧ ∀ j ∈ before, lineOf j ≠ lineOf i) ∨ (free ≠ none ∧ ¬room ∧ before = []) →
        s.talkPress i = (asked.closeCore g v .override).grant g i k) ∧
      (mode = .override → ¬room → ∀ (after : List SeatId) (v : SeatId) (k k' : SlotNo),
        s.openDelegates g = v :: after → v ≠ i → (s.seat v).slot = some k' → lineOf v ≠ lineOf i → free = some k →
        s.stamp + 2 < 4294967295 →
        s.talkPress i = ((asked.closeCore g v .override).offerSlot (lineOf v) k').grant g i k))

/-- R44, R69: the talk press of a seat with segment NONE is discarded; in a CLOSED session that of a chair does nothing but that a BLOCKED
light becomes OFF. R74: a talk press of a chair in an OPEN session: an OPEN chair is closed with cause KEY; an IDLE one is granted with
the lowest free slot of its line; with no free slot it pre-empts the delegate on its line of highest grant stamp, which returns to its
list under the cap of 48, and a promotion pass follows in that delegate's group; with every slot held by a chair it is refused with
CHAIR_NO_SLOT; with the counter exhausted it is refused. R25: a returned seat leaves the open set, its slot is freed, its grant stamp and
timer go, it joins the waiting list at the place of its request stamp, MIC_OFF, LIGHT REQUEST and SPEAKER are sent and SEAT_PREEMPTED
posted, and nothing else changes. A return of excess delegates leaves a group with no more than its max_open. A refused press sends its
light each time, an exhausted counter is announced where its last value is issued, and a press at the last stamp is granted with it (the
model's reading, log entries 13, 15 and 36). -/
def Obligations.ChairPresses : Prop :=
  (∀ (s : State) (i : SeatId),
    ((s.seat i).segment = none → s.talkPress i = s) ∧
    ∀ g : Seg, s.groupOf i = some g → (s.seat i).kind = .chair → (s.group g).session = .closed →
      s.talkPress i = if (s.seat i).light = .blocked then s.setLight i .off else s) ∧
  (∀ (s : State) (i : SeatId) (g : Seg), s.groupOf i = some g → (s.seat i).kind = .chair → (s.group g).session = .opened →
    let held := fun k v => (s.line (lineOf i)).slots.entry k = some v ∧ (s.seat v).kind = .delegate
    ((s.seat i).floor = .opened → s.talkPress i = s.close g i .key) ∧
    ((s.seat i).floor = .idle → 4294967295 ≤ s.stamp → s.talkPress i = s.setLight i .blocked) ∧
    ((s.seat i).floor = .idle → s.stamp < 4294967295 →
      (∀ k, s.freeSlot (lineOf i) = some k → s.Granted g i k (s.talkPress i)) ∧
      (s.freeSlot (lineOf i) = none → (∀ k v, ¬held k v) →
        s.talkPress i = (s.setLight i .blocked).post .chairNoSlot (some g) (.seat i) none) ∧
      ∀ (k : SlotNo) (v : SeatId) (gv : Seg), s.freeSlot (lineOf i) = none → held k v → (s.seat v).slot = some k →
        s.groupOf v = some gv →
        (∀ k' v', held k' v' → v' ≠ v → (s.seat v').grantStamp.getD 0 < (s.seat v).grantStamp.getD 0) →
        s.talkPress i = (((s.returnSeat gv v).capList gv).grant g i k).promote gv)) ∧
    ∀ (s : State) (g : Seg),
      ((s.returnExcess g).openDelegates g).length ≤ (s.params g).maxOpen ∧
      ∀ i, s.Returned g i (s.returnSeat g i)

/-- R75 to R77: a press of a priority key adds 1 to its group's hold count and a release takes 1 from it, not below 0. Under
MUTE_WHILE_HELD the count rising from 0 posts PRIORITY_MUTE_ON and falling from 1 PRIORITY_MUTE_OFF. Under CANCEL_ALL a press in an OPEN
session withdraws the list, closes the OPEN delegates with cause PRIORITY and posts PRIORITY_CANCEL with the number withdrawn. -/
def Obligations.PriorityKeys : Prop :=
  ∀ (s : State) (g : Seg),
    let pressed := s.setGroup g fun r => { r with hold := r.hold + 1 }
    let released := s.setGroup g fun r => { r with hold := r.hold - 1 }
    ((s.params g).priorityMode = .muteWhileHeld →
      s.priorityPress g =
        (if (s.group g).hold = 0 then pressed.post .priorityMuteOn (some g) .none none else pressed) ∧
      s.priorityRelease g =
        (if (s.group g).hold = 1 then released.post .priorityMuteOff (some g) .none none else released)) ∧
    ((s.params g).priorityMode = .cancelAll →
      s.priorityRelease g = released ∧
      ((s.group g).session = .closed → s.priorityPress g = pressed) ∧
      ((s.group g).session = .opened →
        s.priorityPress g =
          (((pressed.withdrawAll g).openDelegates g).foldl (fun t i => t.close g i .priority) (pressed.withdrawAll g)).post
            .priorityCancel (some g) .none (some (s.group g).waiting.length) ∧
        ((∀ i, (s.seat i).floor = .waiting → s.groupOf i = some g → i ∈ (s.group g).waiting) →
          (s.priorityPress g).openDelegates g = []) ∧
        ((s.priorityPress g).group g).waiting = [] ∧
        ((s.priorityPress g).group g).hold = (s.group g).hold + 1))

/-! ## Speaking time -/

/-- R83 to R87: an expiry of the speaking clock visits the OPEN delegates of the groups not under priority mute, by ascending anchor and
in the order of the open set as they stand before it. Each visit counts one second, up to 65 535, and judges the phase: a warning with its
light and TIME_WARNING, the return to RUNNING where the lead was lowered, the end of the limit (TIME_EXPIRED, then a close with cause
LIMIT or the phase OVERRUN with its light), and a close of an OVERRUN speaker once the action is CLOSE. R88: the chair authority of a
speaker's group adds 1 to 3600 seconds to its limit, up to 65 535, and is answered with seat, limit and remaining time. A WARNED or
OVERRUN speaker returns to RUNNING with its light above the warning lead, an OVERRUN one becomes WARNED at or below it, and TIME_EXTENDED
is posted. A seat that is not OPEN, a chair and an UNTIMED delegate answer WRONG_STATE. An OVERRUN speaker is closed under CLOSE also
where its elapsed time is saturated (the model's reading, log entry 27). -/
def Obligations.SpeakingTime : Prop :=
  ((∀ s : State, exec .speakingClockExpiry s =
    .next (State.finish ((s.applied.anchors.flatMap fun g =>
      if (s.params g).priorityMode = .muteWhileHeld ∧ 0 < (s.group g).hold then []
      else (s.openDelegates g).map fun i => (g, i)).foldl (fun t x => t.visitTimer x.1 x.2) s))) ∧
    ∀ (s : State) (g : Seg) (i : SeatId) (t : Timer), (s.seat i).timer = some t →
      let n := min (t.elapsed + 1) 65535
      let left := t.limit - n
      let lead := (s.params g).warnLead
      let counted := fun p => s.setSeat i fun q => { q with timer := some { limit := t.limit, elapsed := n, phase := p } }
      (t.phase = .untimed → s.visitTimer g i = counted .untimed) ∧
      (t.phase = .running → lead < left → s.visitTimer g i = counted .running) ∧
      (t.phase = .running → 0 < left → left ≤ lead →
        s.visitTimer g i = ((counted .warned).setLight i .warning).post .timeWarning (some g) (.seat i) (some left)) ∧
      (t.phase = .warned → 0 < left → left ≤ lead → s.visitTimer g i = counted .warned) ∧
      (t.phase = .warned → lead < left → s.visitTimer g i = (counted .running).setLight i .opened) ∧
      (t.phase = .running ∨ t.phase = .warned → left = 0 →
        ((s.params g).limitAction = .close →
          s.visitTimer g i =
            ((counted t.phase).post .timeExpired (some g) (.seat i) (some t.limit)).close g i .limit) ∧
        ((s.params g).limitAction = .warn →
          let ended := (counted .overrun).post .timeExpired (some g) (.seat i) (some t.limit)
          s.visitTimer g i = if (s.seat i).light = .warning then ended else ended.setLight i .warning)) ∧
      (t.phase = .overrun →
        s.visitTimer g i =
          if (s.params g).limitAction = .close then (counted .overrun).close g i .limit else counted .overrun)) ∧
    ∀ (s : State) (p : PortId) (hi lo nhi nlo : Byte) (i : SeatId), s.Unfenced p → hi.toNat * 256 + lo.toNat = i.val →
    let command := Instr.extendTime p [hi, lo, nhi, nlo]
    let n := nhi.toNat * 256 + nlo.toNat
    ((s.seat i).segment = none → exec command s = .next (s.respond p .noSuch [])) ∧
    ∀ g, s.groupOf i = some g →
      (s.chairAuth g ≠ p → exec command s = .next (s.respond p .notAuthority [])) ∧
      (s.chairAuth g = p → n = 0 ∨ 3600 < n → exec command s = .next (s.respond p .badParam [])) ∧
      (s.chairAuth g = p → 0 < n → n ≤ 3600 →
        ((s.seat i).floor ≠ .opened ∨ (s.seat i).kind = .chair ∨ (s.seat i).timer = none ∨
            (∃ t, (s.seat i).timer = some t ∧ t.phase = .untimed) →
          exec command s = .next (s.respond p .wrongState [])) ∧
        ∀ t, (s.seat i).floor = .opened → (s.seat i).kind = .delegate → (s.seat i).timer = some t → t.phase ≠ .untimed →
          let limit := min (t.limit + n) 65535
          let left := limit - t.elapsed
          let phase : Phase :=
            if t.phase = .running ∨ (s.params g).warnLead < left then .running
            else if t.phase = .overrun ∧ left = 0 then .overrun else .warned
          let timed := s.setSeat i fun q =>
            { q with timer := some { limit := limit, elapsed := t.elapsed, phase := phase } }
          let lit := if t.phase ≠ .running ∧ phase = .running then timed.setLight i .opened else timed
          exec command s =
            .next ((State.finish (lit.post .timeExtended (some g) (.seat i) (some limit))).respond p .ok
              [BitVec.ofNat 8 (i.val / 256), BitVec.ofNat 8 i.val, BitVec.ofNat 8 (limit / 256), BitVec.ofNat 8 limit,
                BitVec.ofNat 8 (left / 256), BitVec.ofNat 8 left]))

/-- R89 to R91, served to every port: LATCH_TIMES copies the timers of a group's OPEN delegates into the port's snapshot and answers with
their number, or LATCH_HELD where a snapshot is held. READ_TIMES returns up to four entries not yet returned; the snapshot goes with its
last entry. An entry gives seat, elapsed and remaining time, two bytes each. The position 255 of an empty answer is the model's reading
(log entry 20), and the remaining time of an UNTIMED speaker a free code (log entry 19). -/
def Obligations.Snapshots : Prop :=
  ∀ (s : State) (p : PortId), s.Ready p →
    let word := fun n : Nat => [BitVec.ofNat 8 (n / 256), BitVec.ofNat 8 n]
    (∀ g : Seg, s.applied.isAnchor g = true →
      let entries := (s.openDelegates g).filterMap fun i => (s.seat i).timer.map fun t =>
        { seat := i, elapsed := t.elapsed
          remaining := if t.phase = .untimed then none else some (t.limit - t.elapsed) : SnapshotEntry }
      ((s.port p).snapshot ≠ none → exec (.latchTimes p [num g]) s = .next (s.respond p .latchHeld [])) ∧
      ((s.port p).snapshot = none →
        exec (.latchTimes p [num g]) s =
          .next ((s.setPort p fun r =>
            { r with snapshot := some { anchor := g, entries := entries, returned := 0 } }).respond p .ok
            [BitVec.ofNat 8 entries.length]))) ∧
    ((s.port p).snapshot = none → exec (.readTimes p []) s = .next (s.respond p .ok [0, 255, 0, 255])) ∧
    ∀ r, (s.port p).snapshot = some r →
      let out := (r.entries.drop r.returned).take 4
      exec (.readTimes p []) s =
        .next ((s.setPort p fun c =>
          { c with
            snapshot :=
              if r.entries.length ≤ r.returned + out.length then none
              else some { r with returned := r.returned + out.length } }).respond p .ok
          ([1, num r.anchor, BitVec.ofNat 8 r.entries.length,
              if out = [] then 255 else BitVec.ofNat 8 (r.returned + 1)] ++ out.flatMap fun e =>
            word e.seat.val ++ word e.elapsed ++
              word (match e.remaining with | none => Config.untimedCode.toNat | some n => n)))

/-! ## Booths and desks -/

/-- R101: an output is UNROUTED exactly where its booth is OFFLINE or has no home or it has no language, STANDBY exactly where it is
routed and a routed output of a lower-numbered booth of its group has its language, else ACTIVE. R105: the feed status of a desk by its
relay source. R102, R107 to R110: the supervisor sets a booth's home (for the roving booths 10 and 11 the interpretation authority may
too, and with a desk LIVE); the interpretation authority sets the languages of its outputs and its interlock mode. A changed home or
binding is followed by the role recomputation: every role is that of R101, a live desk is on an ACTIVE output, every feed status is that
of R105, and selected outputs, relay sources, links, counters and streams stay; a desk LIVE on an output that stays ACTIVE stays LIVE. A
live desk whose output changes its language is forced OFF first, with DESK_FORCED_OFF (R109). R102, in order: the roles, DESK_FORCED_OFF
for each live desk on an output no longer ACTIVE, BOOTH_ROLES_CHANGED for each booth whose roles changed, and the feed statuses with
DESK_FEED (R105); then the report of changed live outputs (R103). -/
def Obligations.BoothConfiguration : Prop :=
  (∀ (s : State) (b : BoothId),
    let group := fun c : BoothId => (s.booth c).home.map s.applied.entry
    let lang := fun (c : BoothId) (x : Output) => match x with | .a => (s.booth c).langA | .b => (s.booth c).langB
    (∀ o : Output,
      let unrouted := fun (c : BoothId) (x : Output) =>
        (s.booth c).online = false ∨ (s.booth c).home = none ∨ lang c x = none
      let ahead := ∃ c x, c < b ∧ ¬unrouted c x ∧ group c = group b ∧ lang c x = lang b o
      (s.roleOf b o = .unrouted ↔ unrouted b o) ∧
      (s.roleOf b o = .standby ↔ ¬unrouted b o ∧ ahead) ∧
      (s.roleOf b o = .active ↔ ¬unrouted b o ∧ ¬ahead)) ∧
    ∀ d : DeskNo,
      s.feedOf b d =
        match ((s.booth b).desk d).relay with
        | none => .floor
        | some r =>
          if (s.booth r).online = true ∧ (s.booth b).home ≠ none ∧ (s.booth r).home ≠ none ∧ group r = group b then .relay
          else .relayFallback) ∧
  (∀ s : State,
    let code := fun r : Role => match r with | .active => 0 | .standby => 1 | .unrouted => 2
    let roles := { s with booths := s.booths.mapEntries fun b r => { r with roleA := s.roleOf b .a, roleB := s.roleOf b .b } }
    let forced := (List.finRange 12).foldl
      (fun t b => match (t.booth b).live with
        | none => t
        | some d =>
          if (t.booth b).role ((t.booth b).desk d).selected = .active then t
          else (t.setBooth b fun r => { r with live := none }).post .deskForcedOff (s.boothGroup b) (.desk b d) (some 3)) roles
    let told := (List.finRange 12).foldl
      (fun t b =>
        if (s.booth b).roleA = s.roleOf b .a ∧ (s.booth b).roleB = s.roleOf b .b then t
        else t.post .boothRolesChanged (s.boothGroup b) (.booth b)
          (some (code (s.roleOf b .a) * 256 + code (s.roleOf b .b)))) forced
    s.recomputeRoles = (List.finRange 12).foldl
      (fun t b => (List.finRange 3).foldl
        (fun u d =>
          if ((u.booth b).desk d).feed = u.feedOf b d then u
          else (u.setDesk b d fun k => { k with feed := u.feedOf b d }).post .deskFeed (s.boothGroup b) (.desk b d)
            (some (match u.feedOf b d with | .floor => 0 | .relay => 1 | .relayFallback => 2))) t) told) ∧
  ∀ (s : State) (p : PortId) (b : BoothId), s.Unfenced p →
    let recomputed := fun (u : State) (want : Booth) (t : State) =>
      t = State.reportLive s.liveOutputs u.recomputeRoles ∧
      (∀ c d, (if c = b then want.live else (s.booth c).live) = some d →
        (t.booth c).role ((t.booth c).desk d).selected = .active → (t.booth c).live = some d) ∧
      (∀ c, { t.booth c with
          roleA := want.roleA, roleB := want.roleB, live := want.live, desks := want.desks } =
        { (if c = b then want else s.booth c) with
          roleA := want.roleA, roleB := want.roleB, live := want.live, desks := want.desks }) ∧
      (∀ c d, ((t.booth c).desk d).selected = ((s.booth c).desk d).selected ∧
        ((t.booth c).desk d).relay = ((s.booth c).desk d).relay) ∧
      ((∀ c, (s.booth c).live ≠ none → (s.booth c).online = true) → t.InterpFormed) ∧ s.KeepsBesideBooths t
    (∀ x : Option Seg,
      let command := Instr.setBoothHome p [num b, match x with | none => 255 | some y => num y]
      (s.supervisor ≠ p → b.val < 10 ∨ s.interpAuth ≠ p → exec command s = .next (s.respond p .notAuthority [])) ∧
      (s.supervisor = p → b.val < 10 → (s.booth b).live ≠ none → exec command s = .next (s.respond p .inUse [])) ∧
      ((s.supervisor = p ∧ (b.val < 10 → (s.booth b).live = none)) ∨ (10 ≤ b.val ∧ s.interpAuth = p) →
        ((s.booth b).home = x → exec command s = .next (s.respond p .ok [])) ∧
        ((s.booth b).home ≠ x →
          ∃ t : State, exec command s = .next (t.finish.respond p .ok []) ∧
            recomputed (s.setBooth b fun r => { r with home := x }) { s.booth b with home := x } t))) ∧
    (s.interpAuth = p →
      (∀ m : Interlock, exec (.setBoothMode p [num b, match m with | .lockout => 0 | .takeover => 1]) s =
        .next ((s.setBooth b fun r => { r with mode := m }).respond p .ok [])) ∧
      (∀ l : Lang, l ≠ 0 → exec (.setBoothOutputs p [num b, num l, num l]) s = .next (s.respond p .badParam [])) ∧
      ∀ la lb : Option Lang, la ≠ some 0 → lb ≠ some 0 → (la = lb → la = none) →
        let byte := fun x : Option Lang => match x with | none => (255 : Byte) | some y => num y
        let command := Instr.setBoothOutputs p [num b, byte la, byte lb]
        ((s.booth b).langA = la → (s.booth b).langB = lb → exec command s = .next (s.respond p .ok [])) ∧
        ((s.booth b).langA ≠ la ∨ (s.booth b).langB ≠ lb →
          let bound := s.setBooth b fun r => { r with langA := la, langB := lb }
          let loses := fun d => (s.booth b).lang ((s.booth b).desk d).selected ≠
            (match ((s.booth b).desk d).selected with | .a => la | .b => lb)
          ∃ t : State, exec command s = .next (t.finish.respond p .ok []) ∧
            ((∀ d, (s.booth b).live = some d → ¬loses d) →
              recomputed bound { s.booth b with langA := la, langB := lb } t) ∧
            ∀ d, (s.booth b).live = some d → loses d → (t.booth b).live = none ∧
              recomputed
                ((bound.setBooth b fun r => { r with live := none }).post .deskForcedOff (s.boothGroup b) (.desk b d) (some 4))
                { s.booth b with langA := la, langB := lb, live := none } t))

/-- R104, R105, R111: a selection is refused when its booth is the desk's own or has a path to it in the relay graph; the event then posts
RELAY_LOOP and the command answers it. Otherwise the source is stored and the desk's feed status derived again, with DESK_FEED where it
changes; the source the desk has changes nothing. An event of an OFFLINE booth is discarded, and the command is taken all the same. -/
def Obligations.RelaySelections : Prop :=
  ∀ (s : State) (b : BoothId) (d : DeskNo) (source : Option BoothId),
    let loops := ∃ r, source = some r ∧ Relation.ReflTransGen (fun x y => s.relayEdge x y = true) r b
    let stored := s.setDesk b d fun k => { k with relay := source }
    let feed : FeedStatus :=
      match source with
      | none => .floor
      | some r =>
        if (s.booth r).online = true ∧ (s.boothGroup b).isSome ∧ s.boothGroup r = s.boothGroup b then .relay
        else .relayFallback
    let derived :=
      if ((s.booth b).desk d).relay = source then s
      else if ((s.booth b).desk d).feed = feed then stored
      else (stored.setDesk b d fun k => { k with feed := feed }).post .deskFeed (s.boothGroup b) (.desk b d)
        (some (match feed with | .floor => 0 | .relay => 1 | .relayFallback => 2))
    ((s.booth b).online = false → exec (.relaySelect b d source) s = .next s) ∧
    ((s.booth b).online = true →
      (loops → exec (.relaySelect b d source) s =
        .next (s.post .relayLoop (s.boothGroup b) (.desk b d) (source.map Fin.val)).finish) ∧
      (¬loops → exec (.relaySelect b d source) s = .next derived.finish)) ∧
    ∀ p, s.Interp p →
      let code := fun f : FeedStatus => match f with | .floor => (0 : Byte) | .relay => 1 | .relayFallback => 2
      let command := Instr.setDeskRelay p [num b, num d, match source with | none => 255 | some r => num r]
      (loops → exec command s = .next (s.respond p .relayLoop [])) ∧
      (¬loops → ((s.booth b).desk d).relay ≠ source →
        exec command s = .next (derived.finish.respond p .ok [code feed])) ∧
      (((s.booth b).desk d).relay = source → ¬loops →
        exec command s = .next (s.finish.respond p .ok [code ((s.booth b).desk d).feed]))

/-- R94 to R96: a frame in a booth's slot is valid when it is complete and carries the booth's number. ONLINE: the run restarts and the
stream is the sample of the live desk, else silence. A missing frame is silence and counted, and the 4800th in a row (by either row, the
model's reading, log entry 7) takes the booth OFFLINE with BOOTH_OFFLINE: its live desk is OFF, its roles are UNROUTED, its counters stay.
R149: while UNCLOCKED run and count are held. A valid frame brings an OFFLINE booth ONLINE with BOOTH_ONLINE, with silence for this frame
(in both clock states, the model's choice, log entry 38). -/
def Obligations.BoothFrames : Prop :=
  ∀ (s : State) (b : BoothId) (frame : List Byte),
    let valid := ∃ d x y z, frame = [num b, d, x, y, z]
    let missed := s.setBooth b fun r =>
      { r with stream := 0, lostFrames := min (r.lostFrames + 1) 65535, run := r.run + 1 }
    let others := fun t : State =>
      s.KeepsBesideBooths t ∧ (∀ c, (t.booth c).home = (s.booth c).home ∧ (t.booth c).langA = (s.booth c).langA ∧
        (t.booth c).langB = (s.booth c).langB ∧ (t.booth c).mode = (s.booth c).mode) ∧
      ∀ c, c ≠ b → { t.booth c with roleA := .active, roleB := .active, live := none, desks := (s.booth c).desks } =
        { s.booth c with roleA := .active, roleB := .active, live := none }
    let falls := fun t : State =>
      (t.booth b).online = false ∧ (t.booth b).run = 0 ∧ (t.booth b).live = none ∧ (t.booth b).roleA = .unrouted ∧
        (t.booth b).roleB = .unrouted ∧ (t.booth b).stream = 0 ∧
        (t.booth b).lostFrames = min ((s.booth b).lostFrames + 1) 65535 ∧ (t.booth b).badCrc = (s.booth b).badCrc ∧
        others t ∧
        ∀ c d, ((t.booth c).desk d).selected = ((s.booth c).desk d).selected ∧
          ((t.booth c).desk d).relay = ((s.booth c).desk d).relay
    ((s.booth b).online = true →
      (∀ d x y z, frame = [num b, d, x, y, z] →
        exec (.boothFrame b frame) s =
          .next (s.setBooth b fun r =>
            { r with
              run := 0
              stream :=
                if r.live.map Fin.val = some d.toNat then
                  BitVec.ofNat 24 (x.toNat * 65536 + y.toNat * 256 + z.toNat)
                else 0 })) ∧
      (¬valid → s.clocked = false → exec (.boothFrame b frame) s = .next (s.setBooth b fun r => { r with stream := 0 })) ∧
      (¬valid → s.clocked = true → (s.booth b).run < 4799 → exec (.boothFrame b frame) s = .next missed) ∧
      (s.clocked = true → 4799 ≤ (s.booth b).run →
        ∃ t : State, exec (.boothOffline b) s = .next t ∧ (¬valid → exec (.boothFrame b frame) s = .next t) ∧ falls t ∧
          t = State.finish (State.reportLive s.liveOutputs (State.recomputeRoles
            (let off := (missed.setBooth b fun r => { r with online := false, run := 0 }).post .boothOffline (s.boothGroup b)
              (.booth b) none
            match (s.booth b).live with
            | none => off
            | some d => (off.setBooth b fun r => { r with live := none }).post .deskForcedOff (s.boothGroup b) (.desk b d)
              (some 0)))))) ∧
    (s.clocked = false ∨ (s.booth b).online = false ∨ (s.booth b).run < 4799 → exec (.boothOffline b) s = .next s) ∧
    ((s.booth b).online = false →
      (¬valid → exec (.boothFrame b frame) s = .next (s.setBooth b fun r => { r with stream := 0 })) ∧
      (valid →
        ∃ t : State, exec (.boothFrame b frame) s = .next t ∧ (t.booth b).online = true ∧ (t.booth b).run = 0 ∧
          (t.booth b).stream = 0 ∧ (∀ o, (t.booth b).role o = t.roleOf b o) ∧
          (t.booth b).lostFrames = (s.booth b).lostFrames ∧ (t.booth b).badCrc = (s.booth b).badCrc ∧ others t ∧
          t = State.finish (State.reportLive s.liveOutputs (State.recomputeRoles
            ((s.setBooth b fun r => { r with stream := 0, online := true, run := 0 }).post .boothOnline (s.boothGroup b)
              (.booth b) none)))))

/-- R103: the live outputs are the ACTIVE outputs that the live desk of their booth has selected, by group, language and booth. R98 to
R100, R103: the mic key of a LIVE desk puts it OFF. Of an OFF desk it is refused on a STANDBY or UNROUTED output and, under LOCKOUT, while
another desk is LIVE; under TAKEOVER that desk is forced OFF first; else the desk goes LIVE. An output select keeps a LIVE desk on an
ACTIVE output and forces it OFF on another. Each ends with the report of changed live outputs. Events of an OFFLINE booth and events that
fail a check are discarded, and a failed CRC is counted; the bytes of an event that passes every check act as that event (the model's
reading, log entry 8). The channels of one report are decided in ascending number (the model's reading, log entry 17). -/
def Obligations.DeskKeys : Prop :=
  (∀ s : State,
    (∀ (n : SlotName) (b : BoothId),
      (n, b) ∈ s.liveOutputs ↔
        ∃ d o, (s.booth b).live = some d ∧ ((s.booth b).desk d).selected = o ∧
          (match o with | .a => (s.booth b).roleA | .b => (s.booth b).roleB) = .active ∧
          (match o with | .a => (s.booth b).langA | .b => (s.booth b).langB) = some n.language ∧
          (s.booth b).home.map s.applied.entry = some n.group) ∧
    s.liveOutputs.Pairwise fun x y => x.2 < y.2) ∧
  ∀ (s : State) (b : BoothId) (d : DeskNo),
    let r := s.booth b
    let g := s.boothGroup b
    let code := fun o : Output => match o with | .a => 0 | .b => 1
    let off := s.setBooth b fun x => { x with live := none }
    let reported := fun t : State => (State.reportLive s.liveOutputs t).finish
    let chosen := fun o : Output => s.setDesk b d fun k => { k with selected := o }
    let refused := fun n : Nat => (s.post .deskRefused g (.desk b d) (some n)).finish
    let forced := match r.live with
      | none => s
      | some e => off.post .deskForcedOff g (.desk b e) (some 1)
    let live := (forced.setBooth b fun x => { x with live := some d }).post .deskLive g (.desk b d)
      (some (code (r.desk d).selected))
    ((r.online = false →
        exec (.micKey b d) s = .next s ∧ ∀ o, exec (.outputSelect b d o) s = .next s) ∧
      (r.online = true →
        (r.live = some d → exec (.micKey b d) s = .next (reported (off.post .deskOff g (.desk b d) none))) ∧
        (r.live ≠ some d →
          (r.role (r.desk d).selected = .standby → exec (.micKey b d) s = .next (refused 1)) ∧
          (r.role (r.desk d).selected = .unrouted → exec (.micKey b d) s = .next (refused 2)) ∧
          (r.role (r.desk d).selected = .active →
            (r.live ≠ none → r.mode = .lockout → exec (.micKey b d) s = .next (refused 3)) ∧
            (r.live = none ∨ r.mode = .takeover → exec (.micKey b d) s = .next (reported live)))) ∧
        ∀ o,
          ((r.desk d).selected = o → exec (.outputSelect b d o) s = .next s.finish) ∧
          ((r.desk d).selected ≠ o →
            (r.live ≠ some d → exec (.outputSelect b d o) s = .next (reported (chosen o))) ∧
            (r.live = some d → r.role o = .active →
              exec (.outputSelect b d o) s =
                .next (reported ((chosen o).post .deskLive g (.desk b d) (some (code o))))) ∧
            (r.live = some d → r.role o ≠ .active →
              exec (.outputSelect b d o) s =
                .next (reported (((chosen o).setBooth b fun x => { x with live := none }).post .deskForcedOff g (.desk b d)
                  (some 2))))))) ∧
    ∀ x₀ x₁ x₂ x₃ x₄ x₅ : Byte,
      let event := [x₀, x₁, x₂, x₃, x₄, x₅]
      (crc16 event ≠ 0 →
        exec (.deskEventDiscarded b event) s =
          .next (s.setBooth b fun x => { x with badCrc := min (x.badCrc + 1) 65535 })) ∧
      (crc16 event = 0 →
        x₀.toNat ≠ b.val ∨ 2 < x₁.toNat ∨ (x₂ ≠ 1 ∧ x₂ ≠ 2 ∧ x₂ ≠ 3) ∨ (x₂ = 1 ∧ x₃ ≠ 0) ∨ (x₂ = 2 ∧ 1 < x₃.toNat) ∨
          (x₂ = 3 ∧ 11 < x₃.toNat ∧ x₃ ≠ 255) ∨ r.online = false →
        exec (.deskEventDiscarded b event) s = .next s) ∧
      (crc16 event = 0 → x₀ = num b → x₁ = num d →
        (x₂ = 1 → x₃ = 0 → exec (.deskEventDiscarded b event) s = exec (.micKey b d) s) ∧
        (∀ o, x₂ = 2 → x₃.toNat = code o → exec (.deskEventDiscarded b event) s = exec (.outputSelect b d o) s) ∧
        (x₂ = 3 → x₃ = 255 → exec (.deskEventDiscarded b event) s = exec (.relaySelect b d none) s) ∧
        ∀ c : BoothId, x₂ = 3 → x₃ = num c → exec (.deskEventDiscarded b event) s = exec (.relaySelect b d (some c)) s)

/-! ## Language channels -/

/-- R121 to R123, R126: the interpretation authority adds a language at the end of a group's list (served at once in an OPEN session),
removes one (its channel released or its queue place left), and sets the level of an ALLOCATED channel, clamped to 191. R181: ADD_LANGUAGE
answers with the list position and the state of the slot, DORMANT 0, QUEUED 1, ALLOCATED 2, and its queue position or channel, 255 for a
DORMANT slot (these codes are the model's reading, log entry 20). -/
def Obligations.LanguageCommands : Prop :=
  ∀ (s : State) (p : PortId), s.Interp p →
    (∀ (g : Seg) (l : Lang), s.applied.isAnchor g = true → l ≠ 0 →
      let add := Instr.addLanguage p [num g, num l]
      let remove := Instr.removeLanguage p [num g, num l]
      let added := ((s.setGroup g fun r => { r with langs := r.langs ++ [l] }).post .languageAdded (some g) .none
        (some l.val)).flagChange g
      let removed := ((s.setGroup g fun r => { r with langs := r.langs.filter (· != l) }).post .languageRemoved (some g) .none
        (some l.val)).flagChange g
      exec (.addLanguage p [num g, 0]) s = .next (s.respond p .badParam []) ∧
      exec (.removeLanguage p [num g, 0]) s = .next (s.respond p .badParam []) ∧
      (l ∈ (s.group g).langs → exec add s = .next (s.respond p .badParam [])) ∧
      (l ∉ (s.group g).langs → 12 ≤ (s.group g).langs.length → exec add s = .next (s.respond p .full [])) ∧
      (l ∉ (s.group g).langs → (s.group g).langs.length < 12 →
        ∃ t : State, t = (if (s.group g).session = .opened then added.serve s.liveOutputs ⟨g, l⟩ else added) ∧
          t.group g = { s.group g with langs := (s.group g).langs ++ [l] } ∧ (∀ g', g' ≠ g → t.group g' = s.group g') ∧
          exec add s = .next (t.finish.respond p .ok
            (BitVec.ofNat 8 ((s.group g).langs.length + 1) :: (match t.slotState ⟨g, l⟩ with
              | .dormant => [0, 255]
              | .queued n => [1, BitVec.ofNat 8 n]
              | .allocated c => [2, num c])))) ∧
      (l ∉ (s.group g).langs → exec remove s = .next (s.respond p .noSuch [])) ∧
      (l ∈ (s.group g).langs →
        ∃ t : State, exec remove s = .next (t.finish.respond p .ok []) ∧
          t.group g = { s.group g with langs := (s.group g).langs.filter (· != l) } ∧
          (∀ g', g' ≠ g → t.group g' = s.group g') ∧
          t = (match s.slotState ⟨g, l⟩ with
            | .dormant => removed
            | .queued _ => { removed with waitQueue := s.waitQueue.filter (· != ⟨g, l⟩) }
            | .allocated c => removed.release s.liveOutputs c g l))) ∧
    (∀ n : Byte, 31 < n.toNat → ∀ v, exec (.setChannelLevel p [n, v]) s = .next (s.respond p .noSuch [])) ∧
    ∀ (c : ChanId) (v : Byte),
      ((s.channel c).owner = none → exec (.setChannelLevel p [num c, v]) s = .next (s.respond p .wrongState [])) ∧
      ∀ n, (s.channel c).owner = some n →
        let level : Level := if v = 255 then .mute else if 191 < v.toNat then .steps 191 else .steps v.toNat
        exec (.setChannelLevel p [num c, v]) s =
          .next ((State.finish (s.setChannel c fun r => { r with level := level })).respond p .ok
            [num c, if v.toNat = 255 then 255 else if 191 < v.toNat then 191 else v, num n.group, num n.language])

/-- R114 to R117: a slot is ALLOCATED while it owns a channel, else QUEUED by its place in the wait queue, else DORMANT. R118, R119, R124,
R154: a slot that needs a channel takes the lowest FREE one, or joins the tail of the wait queue. A released channel goes to the head of
the queue, or becomes FREE. Every new owner starts at level 0, with the content its live outputs give, the booth input of that content and
both applied gains 0. R125, R154: an ALLOCATED channel decided again takes the content its live outputs give, with CHANNEL_SOURCE and its
booth input where that is another content; it keeps its booth input when the content is no booth. A report decides the channel of each
group and language whose live output changed, and no other, in ascending number (the model's reading, log entry 17). -/
def Obligations.ChannelService : Prop :=
  (∀ (s : State) (n : SlotName),
    (∀ c, s.slotState n = .allocated c ↔ (s.channel c).owner = some n ∧ ∀ c', c' < c → (s.channel c').owner ≠ some n) ∧
    (∀ k, s.slotState n = .queued k ↔ (∀ c, (s.channel c).owner ≠ some n) ∧
      ∃ j, k = j + 1 ∧ s.waitQueue[j]? = some n ∧ ∀ i, i < j → s.waitQueue[i]? ≠ some n) ∧
    (s.slotState n = .dormant ↔ (∀ c, (s.channel c).owner ≠ some n) ∧ n ∉ s.waitQueue)) ∧
  ∀ (s : State) (live : List (SlotName × BoothId)),
    let gives := fun (n : SlotName) (k : Content) =>
      (n.language = 0 → k = .floor) ∧
      (n.language ≠ 0 → (∀ b, (n, b) ∉ live) → k = .under) ∧
      (n.language ≠ 0 → ∀ b, (n, b) ∈ live → (∀ c, (n, c) ∈ live → c = b) → k = .booth b)
    let others := fun (c : ChanId) (t : State) =>
      (∀ k, k ≠ channelBoothPoint c → k ≠ channelFloorPoint c → t.gain k = s.gain k) ∧
        { t with channels := s.channels, gains := s.gains, waitQueue := s.waitQueue, ports := s.ports } = s
    let owned := fun (before : State) (c : ChanId) (n : SlotName) (t : State) =>
      (∃ k, gives n k ∧ t.channel c =
        { owner := some n, level := .steps 0, content := k, boothInput := match k with | .booth b => some b | _ => none }) ∧
      (t.gain (channelBoothPoint c)).applied = 0 ∧ (t.gain (channelFloorPoint c)).applied = 0 ∧
      (∀ c', c' ≠ c → t.channel c' = s.channel c') ∧ others c t ∧
      t.ports = (before.post .channelAllocated (some n.group) (.channel c) (some n.language.val)).ports
    (∀ n : SlotName,
      (∀ c, (s.channel c).owner = none → (∀ c', c' < c → (s.channel c').owner ≠ none) →
        owned s c n (s.serve live n) ∧ (s.serve live n).waitQueue = s.waitQueue) ∧
      ((∀ c, (s.channel c).owner ≠ none) →
        s.serve live n =
          ({ s with waitQueue := s.waitQueue ++ [n] } : State).post .channelWait (some n.group) .none
            (some n.language.val))) ∧
    (∀ (c : ChanId) (g : Seg) (l : Lang),
      let told := s.post .channelReleased (some g) (.channel c) (some l.val)
      let t := s.release live c g l
      (s.waitQueue = [] →
        t.channel c = { owner := none, level := .steps 0, content := .silent, boothInput := none } ∧
        (t.gain (channelBoothPoint c)).applied = 0 ∧ (t.gain (channelFloorPoint c)).applied = 0 ∧
        (∀ c', c' ≠ c → t.channel c' = s.channel c') ∧ others c t ∧ t.waitQueue = [] ∧ t.ports = told.ports) ∧
      ∀ n rest, s.waitQueue = n :: rest → owned told c n t ∧ t.waitQueue = rest) ∧
    (∀ (c : ChanId) (n : SlotName), (s.channel c).owner = some n →
      ∃ k, gives n k ∧ s.redecide live c =
        if (s.channel c).content = k then s
        else (s.setChannel c fun r =>
          { r with content := k, boothInput := match k with | .booth b => some b | _ => r.boothInput }).post .channelSource
            (some n.group) (.channel c)
            (some (match k with | .silent => 0 | .floor => 256 | .under => 512 | .booth b => 768 + b.val))) ∧
    (∀ c, (s.channel c).owner = none → s.redecide live c = s) ∧
    let before := fun n : SlotName => (live.find? fun e => decide (e.1 = n)).map Prod.snd
    let now := fun n : SlotName => (s.liveOutputs.find? fun e => decide (e.1 = n)).map Prod.snd
    let changed := (List.finRange 32).filter fun c =>
      match (s.channel c).owner with | none => false | some n => decide (before n ≠ now n)
    State.reportLive live s = changed.foldl (State.redecide s.liveOutputs) s ∧
      ∀ c, (State.reportLive live s).channel c = if c ∈ changed then (s.redecide s.liveOutputs c).channel c else s.channel c

/-! ## The mix -/

/-- R97, R148 to R151, R156 to R161: a frame in the CLOCKED state moves every applied gain one ramp step, forms every floor bus from the
samples of its open set and the applied mic gains, every channel from its booth input and its group's bus, and every desk feed from the
bus of its booth's group and its relay, counts saturated results and missing samples, posts MIX_CLIP for each counter that leaves 0 (in
ascending output, the model's reading, log entry 28), and sends the outputs with the desk indications of R97; in the UNCLOCKED state it
first clears every applied gain and posts CLOCK_RESTORED. A loss of the clock stops the frames with CLOCK_LOST and keeps everything else.
The streams are those each booth's latest row left, and bits 6 and 7 of an indication are 0 (the model's choices, log entries 37 and 48).
That a clock already lost is not lost again is the model's reading (log entry 33), and that nothing stands sent while UNCLOCKED its choice
(log entry 12). -/
def Obligations.MixFrame : Prop :=
  ∀ (s : State) (uplink : Vector (Option Sample) 32),
    (s.clocked = false → exec .clockLost s = .next s) ∧
    (s.clocked = true →
      exec .clockLost s =
        .next (({ s with clocked := false, frameOut := none } : State).post .clockLost none .none none)) ∧
    ∃ (t : State) (out : FrameOut), exec (.wordClockFrame uplink) s = .next t ∧ t.clocked = true ∧ t.frameOut = some out ∧
      let heard := fun (l : LineId) (k : SlotNo) =>
        ((s.line l).slots.entry k).any fun j => decide ((s.seat j).floor = .opened)
      let sample := fun (l : LineId) (k : SlotNo) => uplink.entry ⟨l.val * 8 + k.val, by omega⟩
      let stream := fun b : Option BoothId => match b with | none => (0 : Int) | some b => (s.booth b).stream.toInt
      let bus := fun g => if s.applied.isAnchor g = true then
        roundOff (((s.group g).openSet.map fun i =>
          match (s.seat i).slot with
          | none => 0
          | some k =>
            (if heard (lineOf i) k = true then ((sample (lineOf i) k).getD 0).toInt else 0) *
              (t.gain (micPoint (lineOf i) k)).applied).sum) else 0
      let channel := fun c => match (s.channel c).owner with
        | none => 0
        | some n => roundOff
          (stream (s.channel c).boothInput * (t.gain (channelBoothPoint c)).applied +
            (t.floorBus.entry n.group).toInt * (t.gain (channelFloorPoint c)).applied)
      let desk := fun (b : BoothId) (d : DeskNo) => roundOff
        ((match (s.booth b).home with
            | none => 0
            | some x => (t.floorBus.entry (s.applied.entry x)).toInt) * (t.gain (deskFloorPoint b d)).applied +
          stream ((s.booth b).desk d).relay * (t.gain (deskRelayPoint b d)).applied)
      let counts := fun (o : OutId) (x : Int) =>
        t.clips.entry o =
          if x < -8388608 ∨ 8388607 < x then min (s.clips.entry o + 1) 65535 else s.clips.entry o
      (∀ k, (t.gain k).target = (s.gain k).target ∧
        (t.gain k).applied =
          let start := if s.clocked = true then (s.gain k).applied else 0
          if start ≤ (s.gain k).target then start + min ((s.gain k).target - start) 1024
          else start - min (start - (s.gain k).target) 1024) ∧
      (∀ g, t.floorBus.entry g = toSample (bus g) ∧ counts (busOut g) (bus g)) ∧
      (∀ c, out.channels.entry c = toSample (channel c) ∧ counts (channelOut c) (channel c)) ∧
      (∀ b d, out.desks.entry (deskIndex b d) = toSample (desk b d) ∧ counts (deskOut (deskIndex b d)) (desk b d)) ∧
      out.feeds = t.floorBus ∧
      (∀ b, out.booths.entry b = allDesks.flatMap fun d =>
        let x := (out.desks.entry (deskIndex b d)).toNat
        let k := (s.booth b).desk d
        [BitVec.ofNat 8 (x / 65536), BitVec.ofNat 8 (x / 256), BitVec.ofNat 8 x,
          BitVec.ofNat 8 ((if (s.booth b).live = some d then 1 else 0) + (match k.selected with | .a => 0 | .b => 2) +
            4 * ((s.booth b).role k.selected).code + 16 * k.feed.code)]) ∧
      (∀ l, t.line l =
        { s.line l with
          audioDrop := min ((s.line l).audioDrop +
            (allSlots.filter fun k => heard l k && (sample l k).isNone).length) 65535 }) ∧
      (let restored := if s.clocked = true then s else s.post .clockRestored none .none none
      let clips := fun (o : OutId) (x : Int) (group : Option Seg) (subject : Subject) (u : State) =>
        if (x < -8388608 ∨ 8388607 < x) ∧ s.clips.entry o = 0 then u.post .mixClip group subject (some o.val) else u
      let buses := (List.finRange 8).foldl (fun u g => clips (busOut g) (bus g) (some g) .none u) restored
      let channels := (List.finRange 32).foldl (fun u c => clips (channelOut c) (channel c) none (.channel c) u) buses
      t.ports = ((List.finRange 12).foldl
        (fun u b => (List.finRange 3).foldl (fun v d => clips (deskOut (deskIndex b d)) (desk b d) none (.desk b d) v) u)
        channels).ports) ∧
      s.KeepsPorts t ∧
      { t with
        clocked := s.clocked, gains := s.gains, floorBus := s.floorBus, lines := s.lines, clips := s.clips
        frameOut := s.frameOut, ports := s.ports } = s

/-- R155: a total attenuation as a linear gain: 0 above 191; below −12 that of −12; else the table value of the total modulo 12, halved
once for each whole 12 steps, and doubled below 0. R156: at each frame an applied gain moves toward its target by their difference or
1024, whichever is smaller, and a gain that has reached its target stays; so it arrives in as many frames as steps of 1024 cover the
distance, and not sooner. R159: a sum is rounded by adding 16 384 and shifting right by 15 places toward minus infinity, and the result
saturated to the 24 bits of a sample. -/
def Obligations.GainArithmetic : Prop :=
  (let m : Fin 12 → Nat := fun k =>
    [32768, 30929, 29193, 27554, 26008, 24548, 23170, 21870, 20643, 19484, 18390, 17358].getD k.val 0
  (∀ t : Int, 191 < t → linearGain t = 0) ∧ (∀ t : Int, t < -12 → linearGain t = 65536) ∧
    (∀ (q : Fin 16) (k : Fin 12), linearGain (12 * q.val + k.val) = m k >>> q.val) ∧
    ∀ k : Fin 12, linearGain ((k.val : Int) - 12) = 2 * m k) ∧
    (∀ g : GainPoint,
    g.ramp.target = g.target ∧ (g.applied = g.target → g.ramp = g) ∧
      (g.applied ≤ g.target → g.ramp.applied = g.applied + min (g.target - g.applied) 1024) ∧
      (g.target ≤ g.applied → g.ramp.applied = g.applied - min (g.applied - g.target) 1024) ∧
      ∀ n : Nat, (GainPoint.ramp^[n] g).applied = g.target ↔
        g.target ≤ g.applied + 1024 * n ∧ g.applied ≤ g.target + 1024 * n) ∧
    ∀ x : Int, (32768 * roundOff x ≤ x + 16384 ∧ x + 16384 < 32768 * (roundOff x + 1)) ∧
      (toSample x).toInt = if x < -8388608 then -8388608 else if 8388607 < x then 8388607 else x

/-- R61, R106, R124, R152 to R154, R162: the end of an event restarts an exhausted counter once no seat is WAITING or OPEN, and forms
every target again, with every applied gain left. A mic point has target 0 for a free slot, a seat not OPEN, a MUTE fader and a muted
delegate, else the gain of fader, trim and NOM; a channel's booth and floor points follow its content and level, a desk's two points what
it hears (R106). The NOM steps are those of the table. SET_GROUP_FADER stores a fader clamped to 191. -/
def Obligations.Targets : Prop :=
  (∀ s : State, s.Retargeted s.finish ∧
    { s.finish with gains := s.gains, stamp := s.stamp, ports := s.ports } = s ∧
    (4294967295 ≤ s.stamp → (∀ i, (s.seat i).floor = .idle) →
      s.finish.stamp = 1 ∧ s.finish.ports = (s.post .stampRestarted none .none none).ports) ∧
    (s.stamp < 4294967295 ∨ (∃ i, (s.seat i).floor ≠ .idle) → s.finish.stamp = s.stamp ∧ s.finish.ports = s.ports)) ∧
    (∀ (s : State) (l : LineId) (k : SlotNo),
      let target := s.targetOf (micPoint l k)
      ((s.line l).slots.entry k = none → target = 0) ∧
      ∀ i, (s.line l).slots.entry k = some i →
        ((s.seat i).floor ≠ .opened → target = 0) ∧
        ∀ g, s.groupOf i = some g → (s.seat i).floor = .opened →
          let muted := (s.params g).priorityMode = .muteWhileHeld ∧ 0 < (s.group g).hold
          ((s.group g).fader = .mute → target = 0) ∧ (muted → (s.seat i).kind = .delegate → target = 0) ∧
          (¬muted ∨ (s.seat i).kind = .chair → ∀ f, (s.group g).fader = .steps f →
            target = linearGain ((f : Int) + (s.seat i).trim +
              if (s.params g).nomEnable = true then
                nomSteps ((s.group g).openSet.filter fun j => !(decide muted && decide ((s.seat j).kind = .delegate))).length
              else 0))) ∧
    (∀ (s : State) (c : ChanId),
      (s.targetOf (channelBoothPoint c) =
        match (s.channel c).content, (s.channel c).level with
        | .booth _, .steps n => linearGain n
        | _, _ => 0) ∧
      ∀ n, (s.channel c).owner = some n →
        s.targetOf (channelFloorPoint c) =
          match (s.channel c).content, (s.channel c).level with
          | .floor, .steps k => linearGain k
          | .under, .steps k => linearGain ((k : Int) + (s.params n.group).underLevel)
          | _, _ => 0) ∧
    (∀ (s : State) (b : BoothId) (d : DeskNo),
      let k := (s.booth b).desk d
      let heard := k.feed = .relay ∧ ∃ r, k.relay = some r ∧ (s.booth r).live ≠ none
      (heard → s.targetOf (deskFloorPoint b d) = 0 ∧ s.targetOf (deskRelayPoint b d) = 32768) ∧
      (¬heard → s.targetOf (deskFloorPoint b d) = 32768 ∧ s.targetOf (deskRelayPoint b d) = 0)) ∧
    (∀ n : Nat, nomSteps 0 = 0 ∧ (16 ≤ n → nomSteps n = 24)) ∧
    ([1, 2, 3, 4, 5, 6, 7, 8, 9, 10, 11, 12, 13, 14, 15, 16].map nomSteps =
      [0, 6, 10, 12, 14, 16, 17, 18, 19, 20, 21, 22, 22, 23, 24, 24]) ∧
    ∀ (s : State) (p : PortId) (g : Seg) (v : Byte), s.Chairs p g →
      let fader : Level := if v = 255 then .mute else if 191 < v.toNat then .steps 191 else .steps v.toNat
      exec (.setGroupFader p [num g, v]) s =
        .next ((State.finish (s.setGroup g fun r => { r with fader := fader })).respond p .ok
          [if v.toNat = 255 then 255 else if 191 < v.toNat then 191 else v])

/-! ## Reads of the blocks -/

/-- R55, R81, R112, R127, R163: the reads of lines, floor, booths, languages and mix are served to every port, fenced or not, need no
authority, and change nothing but the counters that a clear flag names. The layout of READ_FLOOR and the codes are the model's reading
(log entry 20), and an absent stamp and the contents of the line record use free codes (log entry 19). -/
def Obligations.BlockReads : Prop :=
  ∀ (s : State) (p : PortId), s.Ready p →
    (∀ l : LineId,
      let r := s.line l
      let word := fun n : Nat => [BitVec.ofNat 8 (n / 256), BitVec.ofNat 8 n]
      let data : List Byte :=
        [match r.state with | .down => 0 | .addressing => 1 | .verifying => 2 | .running => 3 | .fault => 4,
            match r.fault with | .none => 0 | .chainOpen => 1 | .chainBreak a => Config.chainBreakCode a,
            BitVec.ofNat 8 r.unitCount, BitVec.ofNat 8 r.position, BitVec.ofNat 8 r.verifyRound] ++
          ((List.finRange 8).flatMap fun k =>
            word (match r.slots.entry k with | none => Config.freeSlotCode.toNat | some i => i.val)) ++
          word r.badCrc ++ word r.audioDrop
      exec (.readLineStatus p [num l, 0]) s = .next (s.respond p .ok data) ∧
      exec (.readLineStatus p [num l, 1]) s =
        .next ((s.setLine l fun x => { x with badCrc := 0, audioDrop := 0 }).respond p .ok data)) ∧
    (∀ b : BoothId,
      let r := s.booth b
      let data : List Byte :=
        [if r.online then 1 else 0, BitVec.ofNat 8 (r.run / 256), BitVec.ofNat 8 r.run, BitVec.ofNat 8 (r.lostFrames / 256),
          BitVec.ofNat 8 r.lostFrames, BitVec.ofNat 8 (r.badCrc / 256), BitVec.ofNat 8 r.badCrc]
      exec (.readBoothStatus p [num b, 0]) s = .next (s.respond p .ok data) ∧
      exec (.readBoothStatus p [num b, 1]) s =
        .next ((s.setBooth b fun x => { x with lostFrames := 0, badCrc := 0 }).respond p .ok data)) ∧
    (∀ (g : Seg) (n : Byte), s.applied.isAnchor g = true →
      (let long := fun n : Nat =>
          [BitVec.ofNat 8 (n / 16777216), BitVec.ofNat 8 (n / 65536), BitVec.ofNat 8 (n / 256), BitVec.ofNat 8 n]
        let stamp := fun x : Option Nat => long (match x with | none => Config.absentStampCode.toNat | some n => n)
        let seat := fun i : SeatId => [BitVec.ofNat 8 (i.val / 256), BitVec.ofNat 8 i.val] ++ stamp (s.seat i).requestStamp
        let header : List Byte :=
          [if (s.group g).session = .opened then 1 else 0,
              BitVec.ofNat 8 ((s.group g).openSet.filter fun i => decide ((s.seat i).kind = .delegate)).length,
              BitVec.ofNat 8 ((s.group g).openSet.filter fun i => decide ((s.seat i).kind = .chair)).length,
              BitVec.ofNat 8 (s.params g).maxOpen, BitVec.ofNat 8 (s.group g).waiting.length,
              BitVec.ofNat 8 ((s.group g).hold / 256), BitVec.ofNat 8 (s.group g).hold] ++ long s.stamp
        exec (.readFloor p [num g, 0, n]) s = .next (s.respond p .ok
          (header ++ (((s.group g).waiting.drop (n.toNat - 1)).take 3).flatMap seat)) ∧
        exec (.readFloor p [num g, 1, n]) s = .next (s.respond p .ok
          (header ++ (((s.group g).openSet.drop (n.toNat - 1)).take 1).flatMap fun i =>
            seat i ++ stamp (s.seat i).grantStamp ++ [match (s.seat i).slot with | none => 255 | some k => num k]))) ∧
      exec (.readLanguages p [num g, n]) s = .next (s.respond p .ok
        ([if (s.group g).session = .opened then 1 else 0, BitVec.ofNat 8 s.waitQueue.length,
            BitVec.ofNat 8 ((List.finRange 32).filter fun c => decide ((s.channel c).owner = none)).length,
            BitVec.ofNat 8 ((s.group g).langs.length + 1)] ++
          (((0 :: (s.group g).langs).drop n.toNat).take 8).flatMap fun l =>
            num l ::
              match s.slotState ⟨g, l⟩ with
              | .dormant => [0, 255]
              | .queued k => [1, BitVec.ofNat 8 k]
              | .allocated c => [2, num c]))) ∧
    (∀ o : OutId,
      let outs := (List.range 12).filterMap fun k => if h : o.val + k < 76 then some (⟨o.val + k, h⟩ : OutId) else none
      let data : List Byte := [if s.clocked then 0 else 1, num o] ++
        outs.flatMap fun k => [BitVec.ofNat 8 (s.clips.entry k / 256), BitVec.ofNat 8 (s.clips.entry k)]
      exec (.readMixStatus p [num o, 0]) s = .next (s.respond p .ok data) ∧
      ∃ t : State, exec (.readMixStatus p [num o, 1]) s = .next (t.respond p .ok data) ∧
        (∀ k, t.clips.entry k = if k ∈ outs then 0 else s.clips.entry k) ∧ { t with clips := s.clips } = s) ∧
    ∀ k : PointId,
      exec (.readGainPoint p [num k]) s = .next (s.respond p .ok
        ([num k] ++ [BitVec.ofNat 8 ((s.gain k).target / 65536), BitVec.ofNat 8 ((s.gain k).target / 256),
            BitVec.ofNat 8 (s.gain k).target] ++
          [BitVec.ofNat 8 ((s.gain k).applied / 65536), BitVec.ofNat 8 ((s.gain k).applied / 256),
            BitVec.ofNat 8 (s.gain k).applied]))

/-! ## What every step keeps -/

/-- R164, R168, R170, R171, R172: every step keeps the supervisor port unfenced, and keeps of every port context the queue at most 32
notices, the overflow count at most 255, the short-frame counter at most 65 535 and the presence timeout at most 60 s, with a presence
timer running only on a PRESENT port whose queue holds notices and whose timeout is on, with no more than that timeout left. R165: every
step keeps the bytes stored in RECEIVING a frame that is not yet complete. -/
def Obligations.PortsKept : Prop :=
  (∀ s t : State, s.SupervisorFree → step s = .next t → t.SupervisorFree) ∧
    (∀ s t : State, s.PortsBounded → step s = .next t → t.PortsBounded) ∧
    ∀ s t : State, s.FramesFormed → step s = .next t → t.FramesFormed

/-- R1 to R9, R10, R11, R14: every step keeps the applied topology a partition named by anchors, the proposed topology that of the
effective set, IN_STEP exactly where the two are equal, and every wall record one that the wall rules allow. -/
def Obligations.HallKept : Prop :=
  (∀ s t : State, s.TopologyFormed → step s = .next t → t.TopologyFormed) ∧
    ∀ s t : State, s.WallsFormed → step s = .next t → t.WallsFormed

/-- R101, R104, R105: every step keeps the relay graph of booths without a cycle, every role that of R101 with a LIVE desk on an ACTIVE
output only, and every feed status that of R105. -/
def Obligations.BoothsKept : Prop :=
  (∀ s t : State, s.RelayAcyclic → step s = .next t → t.RelayAcyclic) ∧
    ∀ s t : State, s.InterpFormed → step s = .next t → t.InterpFormed

/-- R61, R152: every step keeps every gain target the one its owners' state gives, and leaves no exhausted counter once no seat is WAITING
or OPEN. -/
def Obligations.TargetsKept : Prop :=
  (∀ s t : State, s.TargetsFormed → step s = .next t → t.TargetsFormed) ∧
    ∀ s t : State, s.Settled → step s = .next t → t.Settled

/-- R49, R57 to R60, R75: every step keeps the floor formed: waiting lists and open sets hold exactly the WAITING and OPEN seats of their
groups in ascending stamps, slots are held by OPEN seats only, lists within 48 and OPEN delegates within max_open, stamps and timers where
the floor state has them, hold counts equal to the keys held. -/
def Obligations.FloorKept : Prop :=
  ∀ s t : State, s.TopologyFormed → s.FloorFormed → step s = .next t → t.FloorFormed

/-- R114 to R117, R124: every step keeps the channels formed: a channel has one owner or is FREE, every slot of an OPEN group and no other
holds one channel or one place in the queue, the queue is non-empty only while no channel is FREE, and every content is that of the live
outputs. -/
def Obligations.ChannelsKept : Prop :=
  ∀ s t : State, s.TopologyFormed → s.ChannelsFormed → step s = .next t → t.ChannelsFormed

/-- What every step keeps holds after hard reset (R177, R18, R56, R57, R113, R128, R152). -/
def Obligations.KeptAtReset : Prop :=
  State.reset.SupervisorFree ∧ State.reset.PortsBounded ∧ State.reset.FramesFormed ∧ State.reset.TopologyFormed ∧ State.reset.WallsFormed ∧
    State.reset.RelayAcyclic ∧ State.reset.InterpFormed ∧ State.reset.TargetsFormed ∧ State.reset.Settled ∧
    State.reset.FloorFormed ∧ State.reset.ChannelsFormed
end

