-- ==== Sys2Proof/Laws/State.lean ====
section
/-! SUPPORT. The small lemmas of the state: entries of tables, and one lemma for each field that an update leaves. -/

namespace Vector

variable {α β : Type} {n : Nat}

/-- Two tables with the same entries are equal. -/
theorem entry_ext {v w : Vector α n} (h : ∀ i, v.entry i = w.entry i) : v = w :=
  Vector.ext fun i hi => h ⟨i, hi⟩

theorem entry_put (v : Vector α n) (i k : Fin n) (x : α) : (v.put i x).entry k = if k = i then x else v.entry k := by
  simp only [entry, put, Vector.getElem_set, Fin.ext_iff, eq_comm]

@[simp] theorem entry_put_same (v : Vector α n) (i : Fin n) (x : α) : (v.put i x).entry i = x := by simp [entry_put]

@[simp] theorem entry_put_ne (v : Vector α n) {i k : Fin n} (x : α) (h : k ≠ i) : (v.put i x).entry k = v.entry k := by
  simp [entry_put, h]

theorem entry_alter (v : Vector α n) (i k : Fin n) (f : α → α) :
    (v.alter i f).entry k = if k = i then f (v.entry i) else v.entry k := entry_put ..

@[simp] theorem entry_alter_same (v : Vector α n) (i : Fin n) (f : α → α) : (v.alter i f).entry i = f (v.entry i) := by
  simp [entry_alter]

@[simp] theorem entry_alter_ne (v : Vector α n) {i k : Fin n} (f : α → α) (h : k ≠ i) :
    (v.alter i f).entry k = v.entry k := by simp [entry_alter, h]

@[simp] theorem entry_tabulate (f : Fin n → α) (i : Fin n) : (tabulate f).entry i = f i := by
  simp [entry, tabulate]

@[simp] theorem entry_mapEntries (f : Fin n → α → β) (v : Vector α n) (i : Fin n) :
    (v.mapEntries f).entry i = f i (v.entry i) := by simp [mapEntries]

@[simp] theorem entry_replicate (x : α) (i : Fin n) : (Vector.replicate n x).entry i = x := by simp [entry]

/-- An entry changed to itself leaves the table. -/
theorem alter_self (v : Vector α n) (i : Fin n) (f : α → α) (h : f (v.entry i) = v.entry i) : v.alter i f = v :=
  entry_ext fun k => by by_cases hk : k = i <;> simp [hk, h]

theorem alter_alter (v : Vector α n) (i : Fin n) (f g : α → α) : (v.alter i f).alter i g = v.alter i fun x => g (f x) :=
  entry_ext fun k => by by_cases hk : k = i <;> simp [hk]

end Vector

namespace Sys2Proof.Machine.State

/-! ## The entry that an update changes -/

theorem setWall_wall (s : State) (w k : WallId) (f : Wall → Wall) :
    (s.setWall w f).wall k = if k = w then f (s.wall w) else s.wall k := Vector.entry_alter ..
@[simp] theorem setWall_wall_same (s : State) (w : WallId) (f : Wall → Wall) : (s.setWall w f).wall w = f (s.wall w) := by
  simp [setWall_wall]
@[simp] theorem setWall_wall_ne (s : State) {w k : WallId} (f : Wall → Wall) (h : k ≠ w) : (s.setWall w f).wall k = s.wall k := by
  simp [setWall_wall, h]
theorem setLine_line (s : State) (l k : LineId) (f : Line → Line) :
    (s.setLine l f).line k = if k = l then f (s.line l) else s.line k := Vector.entry_alter ..
@[simp] theorem setLine_line_same (s : State) (l : LineId) (f : Line → Line) : (s.setLine l f).line l = f (s.line l) := by
  simp [setLine_line]
@[simp] theorem setLine_line_ne (s : State) {l k : LineId} (f : Line → Line) (h : k ≠ l) : (s.setLine l f).line k = s.line k := by
  simp [setLine_line, h]
theorem setSeat_seat (s : State) (i k : SeatId) (f : Seat → Seat) :
    (s.setSeat i f).seat k = if k = i then f (s.seat i) else s.seat k := Vector.entry_alter ..
@[simp] theorem setSeat_seat_same (s : State) (i : SeatId) (f : Seat → Seat) : (s.setSeat i f).seat i = f (s.seat i) := by
  simp [setSeat_seat]
@[simp] theorem setSeat_seat_ne (s : State) {i k : SeatId} (f : Seat → Seat) (h : k ≠ i) : (s.setSeat i f).seat k = s.seat k := by
  simp [setSeat_seat, h]
theorem setGroup_group (s : State) (g k : Seg) (f : Group → Group) :
    (s.setGroup g f).group k = if k = g then f (s.group g) else s.group k := Vector.entry_alter ..
@[simp] theorem setGroup_group_same (s : State) (g : Seg) (f : Group → Group) : (s.setGroup g f).group g = f (s.group g) := by
  simp [setGroup_group]
@[simp] theorem setGroup_group_ne (s : State) {g k : Seg} (f : Group → Group) (h : k ≠ g) : (s.setGroup g f).group k = s.group k := by
  simp [setGroup_group, h]
theorem setBooth_booth (s : State) (b k : BoothId) (f : Booth → Booth) :
    (s.setBooth b f).booth k = if k = b then f (s.booth b) else s.booth k := Vector.entry_alter ..
@[simp] theorem setBooth_booth_same (s : State) (b : BoothId) (f : Booth → Booth) : (s.setBooth b f).booth b = f (s.booth b) := by
  simp [setBooth_booth]
@[simp] theorem setBooth_booth_ne (s : State) {b k : BoothId} (f : Booth → Booth) (h : k ≠ b) : (s.setBooth b f).booth k = s.booth k := by
  simp [setBooth_booth, h]
theorem setChannel_channel (s : State) (c k : ChanId) (f : Channel → Channel) :
    (s.setChannel c f).channel k = if k = c then f (s.channel c) else s.channel k := Vector.entry_alter ..
@[simp] theorem setChannel_channel_same (s : State) (c : ChanId) (f : Channel → Channel) : (s.setChannel c f).channel c = f (s.channel c) := by
  simp [setChannel_channel]
@[simp] theorem setChannel_channel_ne (s : State) {c k : ChanId} (f : Channel → Channel) (h : k ≠ c) : (s.setChannel c f).channel k = s.channel k := by
  simp [setChannel_channel, h]
theorem setPort_port (s : State) (p k : PortId) (f : Port → Port) :
    (s.setPort p f).port k = if k = p then f (s.port p) else s.port k := Vector.entry_alter ..
@[simp] theorem setPort_port_same (s : State) (p : PortId) (f : Port → Port) : (s.setPort p f).port p = f (s.port p) := by
  simp [setPort_port]
@[simp] theorem setPort_port_ne (s : State) {p k : PortId} (f : Port → Port) (h : k ≠ p) : (s.setPort p f).port k = s.port k := by
  simp [setPort_port, h]

@[simp] theorem setDesk_desk_same (s : State) (b : BoothId) (d : DeskNo) (f : Desk → Desk) :
    ((s.setDesk b d f).booth b).desk d = f ((s.booth b).desk d) := by
  simp [setDesk, Booth.desk]

@[simp] theorem setDesk_desk_ne (s : State) (b : BoothId) {d k : DeskNo} (f : Desk → Desk) (h : k ≠ d) :
    ((s.setDesk b d f).booth b).desk k = (s.booth b).desk k := by
  simp [setDesk, Booth.desk, h]

@[simp] theorem setDesk_booth_ne (s : State) {b k : BoothId} (d : DeskNo) (f : Desk → Desk) (h : k ≠ b) :
    (s.setDesk b d f).booth k = s.booth k := by simp [setDesk, h]

@[simp] theorem postTo_port (s : State) (who : PortId → Bool) (n : Notice) (p : PortId) :
    (s.postTo who n).port p = if who p then (s.port p).offer n else s.port p := Vector.entry_mapEntries ..

@[simp] theorem post_port (s : State) (k : NoticeKind) (g : Option Seg) (x : Subject) (v : Option Nat) (p : PortId) :
    (s.post k g x v).port p = (s.port p).offer ⟨k, g, x, v⟩ := by simp [post]

@[simp] theorem flagChange_port (s : State) (g : Seg) (p : PortId) :
    (s.flagChange g).port p = { s.port p with changes := (s.port p).changes ||| BitVec.twoPow 8 g.val } :=
  Vector.entry_mapEntries ..

theorem respond_port (s : State) (p q : PortId) (c : ResultCode) (d : List Byte) :
    (s.respond p c d).port q =
      if q = p then { s.port p with frame := .responding, response := responseBytes c d } else s.port q :=
  setPort_port ..

@[simp] theorem retarget_gain (s : State) (k : PointId) : s.retarget.gain k = { s.gain k with target := s.targetOf k } :=
  Vector.entry_mapEntries ..

@[simp] theorem rampAll_gain (s : State) (k : PointId) : s.rampAll.gain k = (s.gain k).ramp := Vector.entry_mapEntries ..

@[simp] theorem clearAllApplied_gain (s : State) (k : PointId) : s.clearAllApplied.gain k = { s.gain k with applied := 0 } :=
  Vector.entry_mapEntries ..

@[simp] theorem takeRoles_booth (s : State) (b : BoothId) :
    s.takeRoles.booth b = { s.booth b with roleA := s.roleOf b .a, roleB := s.roleOf b .b } := Vector.entry_mapEntries ..

/-! ## The fields that an update leaves -/

@[simp] theorem setWall_applied (s : State) (w : WallId) (f : Wall → Wall) : (s.setWall w f).applied = s.applied := rfl
@[simp] theorem setWall_proposed (s : State) (w : WallId) (f : Wall → Wall) : (s.setWall w f).proposed = s.proposed := rfl
@[simp] theorem setWall_regroup (s : State) (w : WallId) (f : Wall → Wall) : (s.setWall w f).regroup = s.regroup := rfl
@[simp] theorem setWall_profiles (s : State) (w : WallId) (f : Wall → Wall) : (s.setWall w f).profiles = s.profiles := rfl
@[simp] theorem setWall_select (s : State) (w : WallId) (f : Wall → Wall) : (s.setWall w f).select = s.select := rfl
@[simp] theorem setWall_lines (s : State) (w : WallId) (f : Wall → Wall) : (s.setWall w f).lines = s.lines := rfl
@[simp] theorem setWall_seats (s : State) (w : WallId) (f : Wall → Wall) : (s.setWall w f).seats = s.seats := rfl
@[simp] theorem setWall_downlink (s : State) (w : WallId) (f : Wall → Wall) : (s.setWall w f).downlink = s.downlink := rfl
@[simp] theorem setWall_groups (s : State) (w : WallId) (f : Wall → Wall) : (s.setWall w f).groups = s.groups := rfl
@[simp] theorem setWall_stamp (s : State) (w : WallId) (f : Wall → Wall) : (s.setWall w f).stamp = s.stamp := rfl
@[simp] theorem setWall_booths (s : State) (w : WallId) (f : Wall → Wall) : (s.setWall w f).booths = s.booths := rfl
@[simp] theorem setWall_channels (s : State) (w : WallId) (f : Wall → Wall) : (s.setWall w f).channels = s.channels := rfl
@[simp] theorem setWall_waitQueue (s : State) (w : WallId) (f : Wall → Wall) : (s.setWall w f).waitQueue = s.waitQueue := rfl
@[simp] theorem setWall_clocked (s : State) (w : WallId) (f : Wall → Wall) : (s.setWall w f).clocked = s.clocked := rfl
@[simp] theorem setWall_gains (s : State) (w : WallId) (f : Wall → Wall) : (s.setWall w f).gains = s.gains := rfl
@[simp] theorem setWall_floorBus (s : State) (w : WallId) (f : Wall → Wall) : (s.setWall w f).floorBus = s.floorBus := rfl
@[simp] theorem setWall_clips (s : State) (w : WallId) (f : Wall → Wall) : (s.setWall w f).clips = s.clips := rfl
@[simp] theorem setWall_frameOut (s : State) (w : WallId) (f : Wall → Wall) : (s.setWall w f).frameOut = s.frameOut := rfl
@[simp] theorem setWall_ports (s : State) (w : WallId) (f : Wall → Wall) : (s.setWall w f).ports = s.ports := rfl
@[simp] theorem setWall_supervisor (s : State) (w : WallId) (f : Wall → Wall) : (s.setWall w f).supervisor = s.supervisor := rfl
@[simp] theorem setWall_interpPort (s : State) (w : WallId) (f : Wall → Wall) : (s.setWall w f).interpPort = s.interpPort := rfl
@[simp] theorem setWall_homePort (s : State) (w : WallId) (f : Wall → Wall) : (s.setWall w f).homePort = s.homePort := rfl
@[simp] theorem setWall_pending (s : State) (w : WallId) (f : Wall → Wall) : (s.setWall w f).pending = s.pending := rfl
@[simp] theorem setWall_clocks (s : State) (w : WallId) (f : Wall → Wall) : (s.setWall w f).clocks = s.clocks := rfl
@[simp] theorem setLine_walls (s : State) (l : LineId) (f : Line → Line) : (s.setLine l f).walls = s.walls := rfl
@[simp] theorem setLine_applied (s : State) (l : LineId) (f : Line → Line) : (s.setLine l f).applied = s.applied := rfl
@[simp] theorem setLine_proposed (s : State) (l : LineId) (f : Line → Line) : (s.setLine l f).proposed = s.proposed := rfl
@[simp] theorem setLine_regroup (s : State) (l : LineId) (f : Line → Line) : (s.setLine l f).regroup = s.regroup := rfl
@[simp] theorem setLine_profiles (s : State) (l : LineId) (f : Line → Line) : (s.setLine l f).profiles = s.profiles := rfl
@[simp] theorem setLine_select (s : State) (l : LineId) (f : Line → Line) : (s.setLine l f).select = s.select := rfl
@[simp] theorem setLine_seats (s : State) (l : LineId) (f : Line → Line) : (s.setLine l f).seats = s.seats := rfl
@[simp] theorem setLine_downlink (s : State) (l : LineId) (f : Line → Line) : (s.setLine l f).downlink = s.downlink := rfl
@[simp] theorem setLine_groups (s : State) (l : LineId) (f : Line → Line) : (s.setLine l f).groups = s.groups := rfl
@[simp] theorem setLine_stamp (s : State) (l : LineId) (f : Line → Line) : (s.setLine l f).stamp = s.stamp := rfl
@[simp] theorem setLine_booths (s : State) (l : LineId) (f : Line → Line) : (s.setLine l f).booths = s.booths := rfl
@[simp] theorem setLine_channels (s : State) (l : LineId) (f : Line → Line) : (s.setLine l f).channels = s.channels := rfl
@[simp] theorem setLine_waitQueue (s : State) (l : LineId) (f : Line → Line) : (s.setLine l f).waitQueue = s.waitQueue := rfl
@[simp] theorem setLine_clocked (s : State) (l : LineId) (f : Line → Line) : (s.setLine l f).clocked = s.clocked := rfl
@[simp] theorem setLine_gains (s : State) (l : LineId) (f : Line → Line) : (s.setLine l f).gains = s.gains := rfl
@[simp] theorem setLine_floorBus (s : State) (l : LineId) (f : Line → Line) : (s.setLine l f).floorBus = s.floorBus := rfl
@[simp] theorem setLine_clips (s : State) (l : LineId) (f : Line → Line) : (s.setLine l f).clips = s.clips := rfl
@[simp] theorem setLine_frameOut (s : State) (l : LineId) (f : Line → Line) : (s.setLine l f).frameOut = s.frameOut := rfl
@[simp] theorem setLine_ports (s : State) (l : LineId) (f : Line → Line) : (s.setLine l f).ports = s.ports := rfl
@[simp] theorem setLine_supervisor (s : State) (l : LineId) (f : Line → Line) : (s.setLine l f).supervisor = s.supervisor := rfl
@[simp] theorem setLine_interpPort (s : State) (l : LineId) (f : Line → Line) : (s.setLine l f).interpPort = s.interpPort := rfl
@[simp] theorem setLine_homePort (s : State) (l : LineId) (f : Line → Line) : (s.setLine l f).homePort = s.homePort := rfl
@[simp] theorem setLine_pending (s : State) (l : LineId) (f : Line → Line) : (s.setLine l f).pending = s.pending := rfl
@[simp] theorem setLine_clocks (s : State) (l : LineId) (f : Line → Line) : (s.setLine l f).clocks = s.clocks := rfl
@[simp] theorem setSeat_walls (s : State) (i : SeatId) (f : Seat → Seat) : (s.setSeat i f).walls = s.walls := rfl
@[simp] theorem setSeat_applied (s : State) (i : SeatId) (f : Seat → Seat) : (s.setSeat i f).applied = s.applied := rfl
@[simp] theorem setSeat_proposed (s : State) (i : SeatId) (f : Seat → Seat) : (s.setSeat i f).proposed = s.proposed := rfl
@[simp] theorem setSeat_regroup (s : State) (i : SeatId) (f : Seat → Seat) : (s.setSeat i f).regroup = s.regroup := rfl
@[simp] theorem setSeat_profiles (s : State) (i : SeatId) (f : Seat → Seat) : (s.setSeat i f).profiles = s.profiles := rfl
@[simp] theorem setSeat_select (s : State) (i : SeatId) (f : Seat → Seat) : (s.setSeat i f).select = s.select := rfl
@[simp] theorem setSeat_lines (s : State) (i : SeatId) (f : Seat → Seat) : (s.setSeat i f).lines = s.lines := rfl
@[simp] theorem setSeat_downlink (s : State) (i : SeatId) (f : Seat → Seat) : (s.setSeat i f).downlink = s.downlink := rfl
@[simp] theorem setSeat_groups (s : State) (i : SeatId) (f : Seat → Seat) : (s.setSeat i f).groups = s.groups := rfl
@[simp] theorem setSeat_stamp (s : State) (i : SeatId) (f : Seat → Seat) : (s.setSeat i f).stamp = s.stamp := rfl
@[simp] theorem setSeat_booths (s : State) (i : SeatId) (f : Seat → Seat) : (s.setSeat i f).booths = s.booths := rfl
@[simp] theorem setSeat_channels (s : State) (i : SeatId) (f : Seat → Seat) : (s.setSeat i f).channels = s.channels := rfl
@[simp] theorem setSeat_waitQueue (s : State) (i : SeatId) (f : Seat → Seat) : (s.setSeat i f).waitQueue = s.waitQueue := rfl
@[simp] theorem setSeat_clocked (s : State) (i : SeatId) (f : Seat → Seat) : (s.setSeat i f).clocked = s.clocked := rfl
@[simp] theorem setSeat_gains (s : State) (i : SeatId) (f : Seat → Seat) : (s.setSeat i f).gains = s.gains := rfl
@[simp] theorem setSeat_floorBus (s : State) (i : SeatId) (f : Seat → Seat) : (s.setSeat i f).floorBus = s.floorBus := rfl
@[simp] theorem setSeat_clips (s : State) (i : SeatId) (f : Seat → Seat) : (s.setSeat i f).clips = s.clips := rfl
@[simp] theorem setSeat_frameOut (s : State) (i : SeatId) (f : Seat → Seat) : (s.setSeat i f).frameOut = s.frameOut := rfl
@[simp] theorem setSeat_ports (s : State) (i : SeatId) (f : Seat → Seat) : (s.setSeat i f).ports = s.ports := rfl
@[simp] theorem setSeat_supervisor (s : State) (i : SeatId) (f : Seat → Seat) : (s.setSeat i f).supervisor = s.supervisor := rfl
@[simp] theorem setSeat_interpPort (s : State) (i : SeatId) (f : Seat → Seat) : (s.setSeat i f).interpPort = s.interpPort := rfl
@[simp] theorem setSeat_homePort (s : State) (i : SeatId) (f : Seat → Seat) : (s.setSeat i f).homePort = s.homePort := rfl
@[simp] theorem setSeat_pending (s : State) (i : SeatId) (f : Seat → Seat) : (s.setSeat i f).pending = s.pending := rfl
@[simp] theorem setSeat_clocks (s : State) (i : SeatId) (f : Seat → Seat) : (s.setSeat i f).clocks = s.clocks := rfl
@[simp] theorem setGroup_walls (s : State) (g : Seg) (f : Group → Group) : (s.setGroup g f).walls = s.walls := rfl
@[simp] theorem setGroup_applied (s : State) (g : Seg) (f : Group → Group) : (s.setGroup g f).applied = s.applied := rfl
@[simp] theorem setGroup_proposed (s : State) (g : Seg) (f : Group → Group) : (s.setGroup g f).proposed = s.proposed := rfl
@[simp] theorem setGroup_regroup (s : State) (g : Seg) (f : Group → Group) : (s.setGroup g f).regroup = s.regroup := rfl
@[simp] theorem setGroup_profiles (s : State) (g : Seg) (f : Group → Group) : (s.setGroup g f).profiles = s.profiles := rfl
@[simp] theorem setGroup_select (s : State) (g : Seg) (f : Group → Group) : (s.setGroup g f).select = s.select := rfl
@[simp] theorem setGroup_lines (s : State) (g : Seg) (f : Group → Group) : (s.setGroup g f).lines = s.lines := rfl
@[simp] theorem setGroup_seats (s : State) (g : Seg) (f : Group → Group) : (s.setGroup g f).seats = s.seats := rfl
@[simp] theorem setGroup_downlink (s : State) (g : Seg) (f : Group → Group) : (s.setGroup g f).downlink = s.downlink := rfl
@[simp] theorem setGroup_stamp (s : State) (g : Seg) (f : Group → Group) : (s.setGroup g f).stamp = s.stamp := rfl
@[simp] theorem setGroup_booths (s : State) (g : Seg) (f : Group → Group) : (s.setGroup g f).booths = s.booths := rfl
@[simp] theorem setGroup_channels (s : State) (g : Seg) (f : Group → Group) : (s.setGroup g f).channels = s.channels := rfl
@[simp] theorem setGroup_waitQueue (s : State) (g : Seg) (f : Group → Group) : (s.setGroup g f).waitQueue = s.waitQueue := rfl
@[simp] theorem setGroup_clocked (s : State) (g : Seg) (f : Group → Group) : (s.setGroup g f).clocked = s.clocked := rfl
@[simp] theorem setGroup_gains (s : State) (g : Seg) (f : Group → Group) : (s.setGroup g f).gains = s.gains := rfl
@[simp] theorem setGroup_floorBus (s : State) (g : Seg) (f : Group → Group) : (s.setGroup g f).floorBus = s.floorBus := rfl
@[simp] theorem setGroup_clips (s : State) (g : Seg) (f : Group → Group) : (s.setGroup g f).clips = s.clips := rfl
@[simp] theorem setGroup_frameOut (s : State) (g : Seg) (f : Group → Group) : (s.setGroup g f).frameOut = s.frameOut := rfl
@[simp] theorem setGroup_ports (s : State) (g : Seg) (f : Group → Group) : (s.setGroup g f).ports = s.ports := rfl
@[simp] theorem setGroup_supervisor (s : State) (g : Seg) (f : Group → Group) : (s.setGroup g f).supervisor = s.supervisor := rfl
@[simp] theorem setGroup_interpPort (s : State) (g : Seg) (f : Group → Group) : (s.setGroup g f).interpPort = s.interpPort := rfl
@[simp] theorem setGroup_homePort (s : State) (g : Seg) (f : Group → Group) : (s.setGroup g f).homePort = s.homePort := rfl
@[simp] theorem setGroup_pending (s : State) (g : Seg) (f : Group → Group) : (s.setGroup g f).pending = s.pending := rfl
@[simp] theorem setGroup_clocks (s : State) (g : Seg) (f : Group → Group) : (s.setGroup g f).clocks = s.clocks := rfl
@[simp] theorem setBooth_walls (s : State) (b : BoothId) (f : Booth → Booth) : (s.setBooth b f).walls = s.walls := rfl
@[simp] theorem setBooth_applied (s : State) (b : BoothId) (f : Booth → Booth) : (s.setBooth b f).applied = s.applied := rfl
@[simp] theorem setBooth_proposed (s : State) (b : BoothId) (f : Booth → Booth) : (s.setBooth b f).proposed = s.proposed := rfl
@[simp] theorem setBooth_regroup (s : State) (b : BoothId) (f : Booth → Booth) : (s.setBooth b f).regroup = s.regroup := rfl
@[simp] theorem setBooth_profiles (s : State) (b : BoothId) (f : Booth → Booth) : (s.setBooth b f).profiles = s.profiles := rfl
@[simp] theorem setBooth_select (s : State) (b : BoothId) (f : Booth → Booth) : (s.setBooth b f).select = s.select := rfl
@[simp] theorem setBooth_lines (s : State) (b : BoothId) (f : Booth → Booth) : (s.setBooth b f).lines = s.lines := rfl
@[simp] theorem setBooth_seats (s : State) (b : BoothId) (f : Booth → Booth) : (s.setBooth b f).seats = s.seats := rfl
@[simp] theorem setBooth_downlink (s : State) (b : BoothId) (f : Booth → Booth) : (s.setBooth b f).downlink = s.downlink := rfl
@[simp] theorem setBooth_groups (s : State) (b : BoothId) (f : Booth → Booth) : (s.setBooth b f).groups = s.groups := rfl
@[simp] theorem setBooth_stamp (s : State) (b : BoothId) (f : Booth → Booth) : (s.setBooth b f).stamp = s.stamp := rfl
@[simp] theorem setBooth_channels (s : State) (b : BoothId) (f : Booth → Booth) : (s.setBooth b f).channels = s.channels := rfl
@[simp] theorem setBooth_waitQueue (s : State) (b : BoothId) (f : Booth → Booth) : (s.setBooth b f).waitQueue = s.waitQueue := rfl
@[simp] theorem setBooth_clocked (s : State) (b : BoothId) (f : Booth → Booth) : (s.setBooth b f).clocked = s.clocked := rfl
@[simp] theorem setBooth_gains (s : State) (b : BoothId) (f : Booth → Booth) : (s.setBooth b f).gains = s.gains := rfl
@[simp] theorem setBooth_floorBus (s : State) (b : BoothId) (f : Booth → Booth) : (s.setBooth b f).floorBus = s.floorBus := rfl
@[simp] theorem setBooth_clips (s : State) (b : BoothId) (f : Booth → Booth) : (s.setBooth b f).clips = s.clips := rfl
@[simp] theorem setBooth_frameOut (s : State) (b : BoothId) (f : Booth → Booth) : (s.setBooth b f).frameOut = s.frameOut := rfl
@[simp] theorem setBooth_ports (s : State) (b : BoothId) (f : Booth → Booth) : (s.setBooth b f).ports = s.ports := rfl
@[simp] theorem setBooth_supervisor (s : State) (b : BoothId) (f : Booth → Booth) : (s.setBooth b f).supervisor = s.supervisor := rfl
@[simp] theorem setBooth_interpPort (s : State) (b : BoothId) (f : Booth → Booth) : (s.setBooth b f).interpPort = s.interpPort := rfl
@[simp] theorem setBooth_homePort (s : State) (b : BoothId) (f : Booth → Booth) : (s.setBooth b f).homePort = s.homePort := rfl
@[simp] theorem setBooth_pending (s : State) (b : BoothId) (f : Booth → Booth) : (s.setBooth b f).pending = s.pending := rfl
@[simp] theorem setBooth_clocks (s : State) (b : BoothId) (f : Booth → Booth) : (s.setBooth b f).clocks = s.clocks := rfl
@[simp] theorem setChannel_walls (s : State) (c : ChanId) (f : Channel → Channel) : (s.setChannel c f).walls = s.walls := rfl
@[simp] theorem setChannel_applied (s : State) (c : ChanId) (f : Channel → Channel) : (s.setChannel c f).applied = s.applied := rfl
@[simp] theorem setChannel_proposed (s : State) (c : ChanId) (f : Channel → Channel) : (s.setChannel c f).proposed = s.proposed := rfl
@[simp] theorem setChannel_regroup (s : State) (c : ChanId) (f : Channel → Channel) : (s.setChannel c f).regroup = s.regroup := rfl
@[simp] theorem setChannel_profiles (s : State) (c : ChanId) (f : Channel → Channel) : (s.setChannel c f).profiles = s.profiles := rfl
@[simp] theorem setChannel_select (s : State) (c : ChanId) (f : Channel → Channel) : (s.setChannel c f).select = s.select := rfl
@[simp] theorem setChannel_lines (s : State) (c : ChanId) (f : Channel → Channel) : (s.setChannel c f).lines = s.lines := rfl
@[simp] theorem setChannel_seats (s : State) (c : ChanId) (f : Channel → Channel) : (s.setChannel c f).seats = s.seats := rfl
@[simp] theorem setChannel_downlink (s : State) (c : ChanId) (f : Channel → Channel) : (s.setChannel c f).downlink = s.downlink := rfl
@[simp] theorem setChannel_groups (s : State) (c : ChanId) (f : Channel → Channel) : (s.setChannel c f).groups = s.groups := rfl
@[simp] theorem setChannel_stamp (s : State) (c : ChanId) (f : Channel → Channel) : (s.setChannel c f).stamp = s.stamp := rfl
@[simp] theorem setChannel_booths (s : State) (c : ChanId) (f : Channel → Channel) : (s.setChannel c f).booths = s.booths := rfl
@[simp] theorem setChannel_waitQueue (s : State) (c : ChanId) (f : Channel → Channel) : (s.setChannel c f).waitQueue = s.waitQueue := rfl
@[simp] theorem setChannel_clocked (s : State) (c : ChanId) (f : Channel → Channel) : (s.setChannel c f).clocked = s.clocked := rfl
@[simp] theorem setChannel_gains (s : State) (c : ChanId) (f : Channel → Channel) : (s.setChannel c f).gains = s.gains := rfl
@[simp] theorem setChannel_floorBus (s : State) (c : ChanId) (f : Channel → Channel) : (s.setChannel c f).floorBus = s.floorBus := rfl
@[simp] theorem setChannel_clips (s : State) (c : ChanId) (f : Channel → Channel) : (s.setChannel c f).clips = s.clips := rfl
@[simp] theorem setChannel_frameOut (s : State) (c : ChanId) (f : Channel → Channel) : (s.setChannel c f).frameOut = s.frameOut := rfl
@[simp] theorem setChannel_ports (s : State) (c : ChanId) (f : Channel → Channel) : (s.setChannel c f).ports = s.ports := rfl
@[simp] theorem setChannel_supervisor (s : State) (c : ChanId) (f : Channel → Channel) : (s.setChannel c f).supervisor = s.supervisor := rfl
@[simp] theorem setChannel_interpPort (s : State) (c : ChanId) (f : Channel → Channel) : (s.setChannel c f).interpPort = s.interpPort := rfl
@[simp] theorem setChannel_homePort (s : State) (c : ChanId) (f : Channel → Channel) : (s.setChannel c f).homePort = s.homePort := rfl
@[simp] theorem setChannel_pending (s : State) (c : ChanId) (f : Channel → Channel) : (s.setChannel c f).pending = s.pending := rfl
@[simp] theorem setChannel_clocks (s : State) (c : ChanId) (f : Channel → Channel) : (s.setChannel c f).clocks = s.clocks := rfl
@[simp] theorem setPort_walls (s : State) (p : PortId) (f : Port → Port) : (s.setPort p f).walls = s.walls := rfl
@[simp] theorem setPort_applied (s : State) (p : PortId) (f : Port → Port) : (s.setPort p f).applied = s.applied := rfl
@[simp] theorem setPort_proposed (s : State) (p : PortId) (f : Port → Port) : (s.setPort p f).proposed = s.proposed := rfl
@[simp] theorem setPort_regroup (s : State) (p : PortId) (f : Port → Port) : (s.setPort p f).regroup = s.regroup := rfl
@[simp] theorem setPort_profiles (s : State) (p : PortId) (f : Port → Port) : (s.setPort p f).profiles = s.profiles := rfl
@[simp] theorem setPort_select (s : State) (p : PortId) (f : Port → Port) : (s.setPort p f).select = s.select := rfl
@[simp] theorem setPort_lines (s : State) (p : PortId) (f : Port → Port) : (s.setPort p f).lines = s.lines := rfl
@[simp] theorem setPort_seats (s : State) (p : PortId) (f : Port → Port) : (s.setPort p f).seats = s.seats := rfl
@[simp] theorem setPort_downlink (s : State) (p : PortId) (f : Port → Port) : (s.setPort p f).downlink = s.downlink := rfl
@[simp] theorem setPort_groups (s : State) (p : PortId) (f : Port → Port) : (s.setPort p f).groups = s.groups := rfl
@[simp] theorem setPort_stamp (s : State) (p : PortId) (f : Port → Port) : (s.setPort p f).stamp = s.stamp := rfl
@[simp] theorem setPort_booths (s : State) (p : PortId) (f : Port → Port) : (s.setPort p f).booths = s.booths := rfl
@[simp] theorem setPort_channels (s : State) (p : PortId) (f : Port → Port) : (s.setPort p f).channels = s.channels := rfl
@[simp] theorem setPort_waitQueue (s : State) (p : PortId) (f : Port → Port) : (s.setPort p f).waitQueue = s.waitQueue := rfl
@[simp] theorem setPort_clocked (s : State) (p : PortId) (f : Port → Port) : (s.setPort p f).clocked = s.clocked := rfl
@[simp] theorem setPort_gains (s : State) (p : PortId) (f : Port → Port) : (s.setPort p f).gains = s.gains := rfl
@[simp] theorem setPort_floorBus (s : State) (p : PortId) (f : Port → Port) : (s.setPort p f).floorBus = s.floorBus := rfl
@[simp] theorem setPort_clips (s : State) (p : PortId) (f : Port → Port) : (s.setPort p f).clips = s.clips := rfl
@[simp] theorem setPort_frameOut (s : State) (p : PortId) (f : Port → Port) : (s.setPort p f).frameOut = s.frameOut := rfl
@[simp] theorem setPort_supervisor (s : State) (p : PortId) (f : Port → Port) : (s.setPort p f).supervisor = s.supervisor := rfl
@[simp] theorem setPort_interpPort (s : State) (p : PortId) (f : Port → Port) : (s.setPort p f).interpPort = s.interpPort := rfl
@[simp] theorem setPort_homePort (s : State) (p : PortId) (f : Port → Port) : (s.setPort p f).homePort = s.homePort := rfl
@[simp] theorem setPort_pending (s : State) (p : PortId) (f : Port → Port) : (s.setPort p f).pending = s.pending := rfl
@[simp] theorem setPort_clocks (s : State) (p : PortId) (f : Port → Port) : (s.setPort p f).clocks = s.clocks := rfl
@[simp] theorem setProfile_walls (s : State) (p : ProfileId) (r : Profile) : (s.setProfile p r).walls = s.walls := rfl
@[simp] theorem setProfile_applied (s : State) (p : ProfileId) (r : Profile) : (s.setProfile p r).applied = s.applied := rfl
@[simp] theorem setProfile_proposed (s : State) (p : ProfileId) (r : Profile) : (s.setProfile p r).proposed = s.proposed := rfl
@[simp] theorem setProfile_regroup (s : State) (p : ProfileId) (r : Profile) : (s.setProfile p r).regroup = s.regroup := rfl
@[simp] theorem setProfile_select (s : State) (p : ProfileId) (r : Profile) : (s.setProfile p r).select = s.select := rfl
@[simp] theorem setProfile_lines (s : State) (p : ProfileId) (r : Profile) : (s.setProfile p r).lines = s.lines := rfl
@[simp] theorem setProfile_seats (s : State) (p : ProfileId) (r : Profile) : (s.setProfile p r).seats = s.seats := rfl
@[simp] theorem setProfile_downlink (s : State) (p : ProfileId) (r : Profile) : (s.setProfile p r).downlink = s.downlink := rfl
@[simp] theorem setProfile_groups (s : State) (p : ProfileId) (r : Profile) : (s.setProfile p r).groups = s.groups := rfl
@[simp] theorem setProfile_stamp (s : State) (p : ProfileId) (r : Profile) : (s.setProfile p r).stamp = s.stamp := rfl
@[simp] theorem setProfile_booths (s : State) (p : ProfileId) (r : Profile) : (s.setProfile p r).booths = s.booths := rfl
@[simp] theorem setProfile_channels (s : State) (p : ProfileId) (r : Profile) : (s.setProfile p r).channels = s.channels := rfl
@[simp] theorem setProfile_waitQueue (s : State) (p : ProfileId) (r : Profile) : (s.setProfile p r).waitQueue = s.waitQueue := rfl
@[simp] theorem setProfile_clocked (s : State) (p : ProfileId) (r : Profile) : (s.setProfile p r).clocked = s.clocked := rfl
@[simp] theorem setProfile_gains (s : State) (p : ProfileId) (r : Profile) : (s.setProfile p r).gains = s.gains := rfl
@[simp] theorem setProfile_floorBus (s : State) (p : ProfileId) (r : Profile) : (s.setProfile p r).floorBus = s.floorBus := rfl
@[simp] theorem setProfile_clips (s : State) (p : ProfileId) (r : Profile) : (s.setProfile p r).clips = s.clips := rfl
@[simp] theorem setProfile_frameOut (s : State) (p : ProfileId) (r : Profile) : (s.setProfile p r).frameOut = s.frameOut := rfl
@[simp] theorem setProfile_ports (s : State) (p : ProfileId) (r : Profile) : (s.setProfile p r).ports = s.ports := rfl
@[simp] theorem setProfile_supervisor (s : State) (p : ProfileId) (r : Profile) : (s.setProfile p r).supervisor = s.supervisor := rfl
@[simp] theorem setProfile_interpPort (s : State) (p : ProfileId) (r : Profile) : (s.setProfile p r).interpPort = s.interpPort := rfl
@[simp] theorem setProfile_homePort (s : State) (p : ProfileId) (r : Profile) : (s.setProfile p r).homePort = s.homePort := rfl
@[simp] theorem setProfile_pending (s : State) (p : ProfileId) (r : Profile) : (s.setProfile p r).pending = s.pending := rfl
@[simp] theorem setProfile_clocks (s : State) (p : ProfileId) (r : Profile) : (s.setProfile p r).clocks = s.clocks := rfl
@[simp] theorem setDesk_walls (s : State) (b : BoothId) (d : DeskNo) (f : Desk → Desk) : (s.setDesk b d f).walls = s.walls := rfl
@[simp] theorem setDesk_applied (s : State) (b : BoothId) (d : DeskNo) (f : Desk → Desk) : (s.setDesk b d f).applied = s.applied := rfl
@[simp] theorem setDesk_proposed (s : State) (b : BoothId) (d : DeskNo) (f : Desk → Desk) : (s.setDesk b d f).proposed = s.proposed := rfl
@[simp] theorem setDesk_regroup (s : State) (b : BoothId) (d : DeskNo) (f : Desk → Desk) : (s.setDesk b d f).regroup = s.regroup := rfl
@[simp] theorem setDesk_profiles (s : State) (b : BoothId) (d : DeskNo) (f : Desk → Desk) : (s.setDesk b d f).profiles = s.profiles := rfl
@[simp] theorem setDesk_select (s : State) (b : BoothId) (d : DeskNo) (f : Desk → Desk) : (s.setDesk b d f).select = s.select := rfl
@[simp] theorem setDesk_lines (s : State) (b : BoothId) (d : DeskNo) (f : Desk → Desk) : (s.setDesk b d f).lines = s.lines := rfl
@[simp] theorem setDesk_seats (s : State) (b : BoothId) (d : DeskNo) (f : Desk → Desk) : (s.setDesk b d f).seats = s.seats := rfl
@[simp] theorem setDesk_downlink (s : State) (b : BoothId) (d : DeskNo) (f : Desk → Desk) : (s.setDesk b d f).downlink = s.downlink := rfl
@[simp] theorem setDesk_groups (s : State) (b : BoothId) (d : DeskNo) (f : Desk → Desk) : (s.setDesk b d f).groups = s.groups := rfl
@[simp] theorem setDesk_stamp (s : State) (b : BoothId) (d : DeskNo) (f : Desk → Desk) : (s.setDesk b d f).stamp = s.stamp := rfl
@[simp] theorem setDesk_channels (s : State) (b : BoothId) (d : DeskNo) (f : Desk → Desk) : (s.setDesk b d f).channels = s.channels := rfl
@[simp] theorem setDesk_waitQueue (s : State) (b : BoothId) (d : DeskNo) (f : Desk → Desk) : (s.setDesk b d f).waitQueue = s.waitQueue := rfl
@[simp] theorem setDesk_clocked (s : State) (b : BoothId) (d : DeskNo) (f : Desk → Desk) : (s.setDesk b d f).clocked = s.clocked := rfl
@[simp] theorem setDesk_gains (s : State) (b : BoothId) (d : DeskNo) (f : Desk → Desk) : (s.setDesk b d f).gains = s.gains := rfl
@[simp] theorem setDesk_floorBus (s : State) (b : BoothId) (d : DeskNo) (f : Desk → Desk) : (s.setDesk b d f).floorBus = s.floorBus := rfl
@[simp] theorem setDesk_clips (s : State) (b : BoothId) (d : DeskNo) (f : Desk → Desk) : (s.setDesk b d f).clips = s.clips := rfl
@[simp] theorem setDesk_frameOut (s : State) (b : BoothId) (d : DeskNo) (f : Desk → Desk) : (s.setDesk b d f).frameOut = s.frameOut := rfl
@[simp] theorem setDesk_ports (s : State) (b : BoothId) (d : DeskNo) (f : Desk → Desk) : (s.setDesk b d f).ports = s.ports := rfl
@[simp] theorem setDesk_supervisor (s : State) (b : BoothId) (d : DeskNo) (f : Desk → Desk) : (s.setDesk b d f).supervisor = s.supervisor := rfl
@[simp] theorem setDesk_interpPort (s : State) (b : BoothId) (d : DeskNo) (f : Desk → Desk) : (s.setDesk b d f).interpPort = s.interpPort := rfl
@[simp] theorem setDesk_homePort (s : State) (b : BoothId) (d : DeskNo) (f : Desk → Desk) : (s.setDesk b d f).homePort = s.homePort := rfl
@[simp] theorem setDesk_pending (s : State) (b : BoothId) (d : DeskNo) (f : Desk → Desk) : (s.setDesk b d f).pending = s.pending := rfl
@[simp] theorem setDesk_clocks (s : State) (b : BoothId) (d : DeskNo) (f : Desk → Desk) : (s.setDesk b d f).clocks = s.clocks := rfl
@[simp] theorem postTo_walls (s : State) (who : PortId → Bool) (n : Notice) : (s.postTo who n).walls = s.walls := rfl
@[simp] theorem postTo_applied (s : State) (who : PortId → Bool) (n : Notice) : (s.postTo who n).applied = s.applied := rfl
@[simp] theorem postTo_proposed (s : State) (who : PortId → Bool) (n : Notice) : (s.postTo who n).proposed = s.proposed := rfl
@[simp] theorem postTo_regroup (s : State) (who : PortId → Bool) (n : Notice) : (s.postTo who n).regroup = s.regroup := rfl
@[simp] theorem postTo_profiles (s : State) (who : PortId → Bool) (n : Notice) : (s.postTo who n).profiles = s.profiles := rfl
@[simp] theorem postTo_select (s : State) (who : PortId → Bool) (n : Notice) : (s.postTo who n).select = s.select := rfl
@[simp] theorem postTo_lines (s : State) (who : PortId → Bool) (n : Notice) : (s.postTo who n).lines = s.lines := rfl
@[simp] theorem postTo_seats (s : State) (who : PortId → Bool) (n : Notice) : (s.postTo who n).seats = s.seats := rfl
@[simp] theorem postTo_downlink (s : State) (who : PortId → Bool) (n : Notice) : (s.postTo who n).downlink = s.downlink := rfl
@[simp] theorem postTo_groups (s : State) (who : PortId → Bool) (n : Notice) : (s.postTo who n).groups = s.groups := rfl
@[simp] theorem postTo_stamp (s : State) (who : PortId → Bool) (n : Notice) : (s.postTo who n).stamp = s.stamp := rfl
@[simp] theorem postTo_booths (s : State) (who : PortId → Bool) (n : Notice) : (s.postTo who n).booths = s.booths := rfl
@[simp] theorem postTo_channels (s : State) (who : PortId → Bool) (n : Notice) : (s.postTo who n).channels = s.channels := rfl
@[simp] theorem postTo_waitQueue (s : State) (who : PortId → Bool) (n : Notice) : (s.postTo who n).waitQueue = s.waitQueue := rfl
@[simp] theorem postTo_clocked (s : State) (who : PortId → Bool) (n : Notice) : (s.postTo who n).clocked = s.clocked := rfl
@[simp] theorem postTo_gains (s : State) (who : PortId → Bool) (n : Notice) : (s.postTo who n).gains = s.gains := rfl
@[simp] theorem postTo_floorBus (s : State) (who : PortId → Bool) (n : Notice) : (s.postTo who n).floorBus = s.floorBus := rfl
@[simp] theorem postTo_clips (s : State) (who : PortId → Bool) (n : Notice) : (s.postTo who n).clips = s.clips := rfl
@[simp] theorem postTo_frameOut (s : State) (who : PortId → Bool) (n : Notice) : (s.postTo who n).frameOut = s.frameOut := rfl
@[simp] theorem postTo_supervisor (s : State) (who : PortId → Bool) (n : Notice) : (s.postTo who n).supervisor = s.supervisor := rfl
@[simp] theorem postTo_interpPort (s : State) (who : PortId → Bool) (n : Notice) : (s.postTo who n).interpPort = s.interpPort := rfl
@[simp] theorem postTo_homePort (s : State) (who : PortId → Bool) (n : Notice) : (s.postTo who n).homePort = s.homePort := rfl
@[simp] theorem postTo_pending (s : State) (who : PortId → Bool) (n : Notice) : (s.postTo who n).pending = s.pending := rfl
@[simp] theorem postTo_clocks (s : State) (who : PortId → Bool) (n : Notice) : (s.postTo who n).clocks = s.clocks := rfl
@[simp] theorem post_walls (s : State) (k : NoticeKind) (g : Option Seg) (x : Subject) (v : Option Nat) : (s.post k g x v).walls = s.walls := rfl
@[simp] theorem post_applied (s : State) (k : NoticeKind) (g : Option Seg) (x : Subject) (v : Option Nat) : (s.post k g x v).applied = s.applied := rfl
@[simp] theorem post_proposed (s : State) (k : NoticeKind) (g : Option Seg) (x : Subject) (v : Option Nat) : (s.post k g x v).proposed = s.proposed := rfl
@[simp] theorem post_regroup (s : State) (k : NoticeKind) (g : Option Seg) (x : Subject) (v : Option Nat) : (s.post k g x v).regroup = s.regroup := rfl
@[simp] theorem post_profiles (s : State) (k : NoticeKind) (g : Option Seg) (x : Subject) (v : Option Nat) : (s.post k g x v).profiles = s.profiles := rfl
@[simp] theorem post_select (s : State) (k : NoticeKind) (g : Option Seg) (x : Subject) (v : Option Nat) : (s.post k g x v).select = s.select := rfl
@[simp] theorem post_lines (s : State) (k : NoticeKind) (g : Option Seg) (x : Subject) (v : Option Nat) : (s.post k g x v).lines = s.lines := rfl
@[simp] theorem post_seats (s : State) (k : NoticeKind) (g : Option Seg) (x : Subject) (v : Option Nat) : (s.post k g x v).seats = s.seats := rfl
@[simp] theorem post_downlink (s : State) (k : NoticeKind) (g : Option Seg) (x : Subject) (v : Option Nat) : (s.post k g x v).downlink = s.downlink := rfl
@[simp] theorem post_groups (s : State) (k : NoticeKind) (g : Option Seg) (x : Subject) (v : Option Nat) : (s.post k g x v).groups = s.groups := rfl
@[simp] theorem post_stamp (s : State) (k : NoticeKind) (g : Option Seg) (x : Subject) (v : Option Nat) : (s.post k g x v).stamp = s.stamp := rfl
@[simp] theorem post_booths (s : State) (k : NoticeKind) (g : Option Seg) (x : Subject) (v : Option Nat) : (s.post k g x v).booths = s.booths := rfl
@[simp] theorem post_channels (s : State) (k : NoticeKind) (g : Option Seg) (x : Subject) (v : Option Nat) : (s.post k g x v).channels = s.channels := rfl
@[simp] theorem post_waitQueue (s : State) (k : NoticeKind) (g : Option Seg) (x : Subject) (v : Option Nat) : (s.post k g x v).waitQueue = s.waitQueue := rfl
@[simp] theorem post_clocked (s : State) (k : NoticeKind) (g : Option Seg) (x : Subject) (v : Option Nat) : (s.post k g x v).clocked = s.clocked := rfl
@[simp] theorem post_gains (s : State) (k : NoticeKind) (g : Option Seg) (x : Subject) (v : Option Nat) : (s.post k g x v).gains = s.gains := rfl
@[simp] theorem post_floorBus (s : State) (k : NoticeKind) (g : Option Seg) (x : Subject) (v : Option Nat) : (s.post k g x v).floorBus = s.floorBus := rfl
@[simp] theorem post_clips (s : State) (k : NoticeKind) (g : Option Seg) (x : Subject) (v : Option Nat) : (s.post k g x v).clips = s.clips := rfl
@[simp] theorem post_frameOut (s : State) (k : NoticeKind) (g : Option Seg) (x : Subject) (v : Option Nat) : (s.post k g x v).frameOut = s.frameOut := rfl
@[simp] theorem post_supervisor (s : State) (k : NoticeKind) (g : Option Seg) (x : Subject) (v : Option Nat) : (s.post k g x v).supervisor = s.supervisor := rfl
@[simp] theorem post_interpPort (s : State) (k : NoticeKind) (g : Option Seg) (x : Subject) (v : Option Nat) : (s.post k g x v).interpPort = s.interpPort := rfl
@[simp] theorem post_homePort (s : State) (k : NoticeKind) (g : Option Seg) (x : Subject) (v : Option Nat) : (s.post k g x v).homePort = s.homePort := rfl
@[simp] theorem post_pending (s : State) (k : NoticeKind) (g : Option Seg) (x : Subject) (v : Option Nat) : (s.post k g x v).pending = s.pending := rfl
@[simp] theorem post_clocks (s : State) (k : NoticeKind) (g : Option Seg) (x : Subject) (v : Option Nat) : (s.post k g x v).clocks = s.clocks := rfl
@[simp] theorem flagChange_walls (s : State) (g : Seg) : (s.flagChange g).walls = s.walls := rfl
@[simp] theorem flagChange_applied (s : State) (g : Seg) : (s.flagChange g).applied = s.applied := rfl
@[simp] theorem flagChange_proposed (s : State) (g : Seg) : (s.flagChange g).proposed = s.proposed := rfl
@[simp] theorem flagChange_regroup (s : State) (g : Seg) : (s.flagChange g).regroup = s.regroup := rfl
@[simp] theorem flagChange_profiles (s : State) (g : Seg) : (s.flagChange g).profiles = s.profiles := rfl
@[simp] theorem flagChange_select (s : State) (g : Seg) : (s.flagChange g).select = s.select := rfl
@[simp] theorem flagChange_lines (s : State) (g : Seg) : (s.flagChange g).lines = s.lines := rfl
@[simp] theorem flagChange_seats (s : State) (g : Seg) : (s.flagChange g).seats = s.seats := rfl
@[simp] theorem flagChange_downlink (s : State) (g : Seg) : (s.flagChange g).downlink = s.downlink := rfl
@[simp] theorem flagChange_groups (s : State) (g : Seg) : (s.flagChange g).groups = s.groups := rfl
@[simp] theorem flagChange_stamp (s : State) (g : Seg) : (s.flagChange g).stamp = s.stamp := rfl
@[simp] theorem flagChange_booths (s : State) (g : Seg) : (s.flagChange g).booths = s.booths := rfl
@[simp] theorem flagChange_channels (s : State) (g : Seg) : (s.flagChange g).channels = s.channels := rfl
@[simp] theorem flagChange_waitQueue (s : State) (g : Seg) : (s.flagChange g).waitQueue = s.waitQueue := rfl
@[simp] theorem flagChange_clocked (s : State) (g : Seg) : (s.flagChange g).clocked = s.clocked := rfl
@[simp] theorem flagChange_gains (s : State) (g : Seg) : (s.flagChange g).gains = s.gains := rfl
@[simp] theorem flagChange_floorBus (s : State) (g : Seg) : (s.flagChange g).floorBus = s.floorBus := rfl
@[simp] theorem flagChange_clips (s : State) (g : Seg) : (s.flagChange g).clips = s.clips := rfl
@[simp] theorem flagChange_frameOut (s : State) (g : Seg) : (s.flagChange g).frameOut = s.frameOut := rfl
@[simp] theorem flagChange_supervisor (s : State) (g : Seg) : (s.flagChange g).supervisor = s.supervisor := rfl
@[simp] theorem flagChange_interpPort (s : State) (g : Seg) : (s.flagChange g).interpPort = s.interpPort := rfl
@[simp] theorem flagChange_homePort (s : State) (g : Seg) : (s.flagChange g).homePort = s.homePort := rfl
@[simp] theorem flagChange_pending (s : State) (g : Seg) : (s.flagChange g).pending = s.pending := rfl
@[simp] theorem flagChange_clocks (s : State) (g : Seg) : (s.flagChange g).clocks = s.clocks := rfl
@[simp] theorem respond_walls (s : State) (p : PortId) (c : ResultCode) (d : List Byte) : (s.respond p c d).walls = s.walls := rfl
@[simp] theorem respond_applied (s : State) (p : PortId) (c : ResultCode) (d : List Byte) : (s.respond p c d).applied = s.applied := rfl
@[simp] theorem respond_proposed (s : State) (p : PortId) (c : ResultCode) (d : List Byte) : (s.respond p c d).proposed = s.proposed := rfl
@[simp] theorem respond_regroup (s : State) (p : PortId) (c : ResultCode) (d : List Byte) : (s.respond p c d).regroup = s.regroup := rfl
@[simp] theorem respond_profiles (s : State) (p : PortId) (c : ResultCode) (d : List Byte) : (s.respond p c d).profiles = s.profiles := rfl
@[simp] theorem respond_select (s : State) (p : PortId) (c : ResultCode) (d : List Byte) : (s.respond p c d).select = s.select := rfl
@[simp] theorem respond_lines (s : State) (p : PortId) (c : ResultCode) (d : List Byte) : (s.respond p c d).lines = s.lines := rfl
@[simp] theorem respond_seats (s : State) (p : PortId) (c : ResultCode) (d : List Byte) : (s.respond p c d).seats = s.seats := rfl
@[simp] theorem respond_downlink (s : State) (p : PortId) (c : ResultCode) (d : List Byte) : (s.respond p c d).downlink = s.downlink := rfl
@[simp] theorem respond_groups (s : State) (p : PortId) (c : ResultCode) (d : List Byte) : (s.respond p c d).groups = s.groups := rfl
@[simp] theorem respond_stamp (s : State) (p : PortId) (c : ResultCode) (d : List Byte) : (s.respond p c d).stamp = s.stamp := rfl
@[simp] theorem respond_booths (s : State) (p : PortId) (c : ResultCode) (d : List Byte) : (s.respond p c d).booths = s.booths := rfl
@[simp] theorem respond_channels (s : State) (p : PortId) (c : ResultCode) (d : List Byte) : (s.respond p c d).channels = s.channels := rfl
@[simp] theorem respond_waitQueue (s : State) (p : PortId) (c : ResultCode) (d : List Byte) : (s.respond p c d).waitQueue = s.waitQueue := rfl
@[simp] theorem respond_clocked (s : State) (p : PortId) (c : ResultCode) (d : List Byte) : (s.respond p c d).clocked = s.clocked := rfl
@[simp] theorem respond_gains (s : State) (p : PortId) (c : ResultCode) (d : List Byte) : (s.respond p c d).gains = s.gains := rfl
@[simp] theorem respond_floorBus (s : State) (p : PortId) (c : ResultCode) (d : List Byte) : (s.respond p c d).floorBus = s.floorBus := rfl
@[simp] theorem respond_clips (s : State) (p : PortId) (c : ResultCode) (d : List Byte) : (s.respond p c d).clips = s.clips := rfl
@[simp] theorem respond_frameOut (s : State) (p : PortId) (c : ResultCode) (d : List Byte) : (s.respond p c d).frameOut = s.frameOut := rfl
@[simp] theorem respond_supervisor (s : State) (p : PortId) (c : ResultCode) (d : List Byte) : (s.respond p c d).supervisor = s.supervisor := rfl
@[simp] theorem respond_interpPort (s : State) (p : PortId) (c : ResultCode) (d : List Byte) : (s.respond p c d).interpPort = s.interpPort := rfl
@[simp] theorem respond_homePort (s : State) (p : PortId) (c : ResultCode) (d : List Byte) : (s.respond p c d).homePort = s.homePort := rfl
@[simp] theorem respond_pending (s : State) (p : PortId) (c : ResultCode) (d : List Byte) : (s.respond p c d).pending = s.pending := rfl
@[simp] theorem respond_clocks (s : State) (p : PortId) (c : ResultCode) (d : List Byte) : (s.respond p c d).clocks = s.clocks := rfl
@[simp] theorem retarget_walls (s : State) : (s.retarget).walls = s.walls := rfl
@[simp] theorem retarget_applied (s : State) : (s.retarget).applied = s.applied := rfl
@[simp] theorem retarget_proposed (s : State) : (s.retarget).proposed = s.proposed := rfl
@[simp] theorem retarget_regroup (s : State) : (s.retarget).regroup = s.regroup := rfl
@[simp] theorem retarget_profiles (s : State) : (s.retarget).profiles = s.profiles := rfl
@[simp] theorem retarget_select (s : State) : (s.retarget).select = s.select := rfl
@[simp] theorem retarget_lines (s : State) : (s.retarget).lines = s.lines := rfl
@[simp] theorem retarget_seats (s : State) : (s.retarget).seats = s.seats := rfl
@[simp] theorem retarget_downlink (s : State) : (s.retarget).downlink = s.downlink := rfl
@[simp] theorem retarget_groups (s : State) : (s.retarget).groups = s.groups := rfl
@[simp] theorem retarget_stamp (s : State) : (s.retarget).stamp = s.stamp := rfl
@[simp] theorem retarget_booths (s : State) : (s.retarget).booths = s.booths := rfl
@[simp] theorem retarget_channels (s : State) : (s.retarget).channels = s.channels := rfl
@[simp] theorem retarget_waitQueue (s : State) : (s.retarget).waitQueue = s.waitQueue := rfl
@[simp] theorem retarget_clocked (s : State) : (s.retarget).clocked = s.clocked := rfl
@[simp] theorem retarget_floorBus (s : State) : (s.retarget).floorBus = s.floorBus := rfl
@[simp] theorem retarget_clips (s : State) : (s.retarget).clips = s.clips := rfl
@[simp] theorem retarget_frameOut (s : State) : (s.retarget).frameOut = s.frameOut := rfl
@[simp] theorem retarget_ports (s : State) : (s.retarget).ports = s.ports := rfl
@[simp] theorem retarget_supervisor (s : State) : (s.retarget).supervisor = s.supervisor := rfl
@[simp] theorem retarget_interpPort (s : State) : (s.retarget).interpPort = s.interpPort := rfl
@[simp] theorem retarget_homePort (s : State) : (s.retarget).homePort = s.homePort := rfl
@[simp] theorem retarget_pending (s : State) : (s.retarget).pending = s.pending := rfl
@[simp] theorem retarget_clocks (s : State) : (s.retarget).clocks = s.clocks := rfl
@[simp] theorem clearApplied_walls (s : State) (p : PointId) : (s.clearApplied p).walls = s.walls := rfl
@[simp] theorem clearApplied_applied (s : State) (p : PointId) : (s.clearApplied p).applied = s.applied := rfl
@[simp] theorem clearApplied_proposed (s : State) (p : PointId) : (s.clearApplied p).proposed = s.proposed := rfl
@[simp] theorem clearApplied_regroup (s : State) (p : PointId) : (s.clearApplied p).regroup = s.regroup := rfl
@[simp] theorem clearApplied_profiles (s : State) (p : PointId) : (s.clearApplied p).profiles = s.profiles := rfl
@[simp] theorem clearApplied_select (s : State) (p : PointId) : (s.clearApplied p).select = s.select := rfl
@[simp] theorem clearApplied_lines (s : State) (p : PointId) : (s.clearApplied p).lines = s.lines := rfl
@[simp] theorem clearApplied_seats (s : State) (p : PointId) : (s.clearApplied p).seats = s.seats := rfl
@[simp] theorem clearApplied_downlink (s : State) (p : PointId) : (s.clearApplied p).downlink = s.downlink := rfl
@[simp] theorem clearApplied_groups (s : State) (p : PointId) : (s.clearApplied p).groups = s.groups := rfl
@[simp] theorem clearApplied_stamp (s : State) (p : PointId) : (s.clearApplied p).stamp = s.stamp := rfl
@[simp] theorem clearApplied_booths (s : State) (p : PointId) : (s.clearApplied p).booths = s.booths := rfl
@[simp] theorem clearApplied_channels (s : State) (p : PointId) : (s.clearApplied p).channels = s.channels := rfl
@[simp] theorem clearApplied_waitQueue (s : State) (p : PointId) : (s.clearApplied p).waitQueue = s.waitQueue := rfl
@[simp] theorem clearApplied_clocked (s : State) (p : PointId) : (s.clearApplied p).clocked = s.clocked := rfl
@[simp] theorem clearApplied_floorBus (s : State) (p : PointId) : (s.clearApplied p).floorBus = s.floorBus := rfl
@[simp] theorem clearApplied_clips (s : State) (p : PointId) : (s.clearApplied p).clips = s.clips := rfl
@[simp] theorem clearApplied_frameOut (s : State) (p : PointId) : (s.clearApplied p).frameOut = s.frameOut := rfl
@[simp] theorem clearApplied_ports (s : State) (p : PointId) : (s.clearApplied p).ports = s.ports := rfl
@[simp] theorem clearApplied_supervisor (s : State) (p : PointId) : (s.clearApplied p).supervisor = s.supervisor := rfl
@[simp] theorem clearApplied_interpPort (s : State) (p : PointId) : (s.clearApplied p).interpPort = s.interpPort := rfl
@[simp] theorem clearApplied_homePort (s : State) (p : PointId) : (s.clearApplied p).homePort = s.homePort := rfl
@[simp] theorem clearApplied_pending (s : State) (p : PointId) : (s.clearApplied p).pending = s.pending := rfl
@[simp] theorem clearApplied_clocks (s : State) (p : PointId) : (s.clearApplied p).clocks = s.clocks := rfl
@[simp] theorem clearAllApplied_walls (s : State) : (s.clearAllApplied).walls = s.walls := rfl
@[simp] theorem clearAllApplied_applied (s : State) : (s.clearAllApplied).applied = s.applied := rfl
@[simp] theorem clearAllApplied_proposed (s : State) : (s.clearAllApplied).proposed = s.proposed := rfl
@[simp] theorem clearAllApplied_regroup (s : State) : (s.clearAllApplied).regroup = s.regroup := rfl
@[simp] theorem clearAllApplied_profiles (s : State) : (s.clearAllApplied).profiles = s.profiles := rfl
@[simp] theorem clearAllApplied_select (s : State) : (s.clearAllApplied).select = s.select := rfl
@[simp] theorem clearAllApplied_lines (s : State) : (s.clearAllApplied).lines = s.lines := rfl
@[simp] theorem clearAllApplied_seats (s : State) : (s.clearAllApplied).seats = s.seats := rfl
@[simp] theorem clearAllApplied_downlink (s : State) : (s.clearAllApplied).downlink = s.downlink := rfl
@[simp] theorem clearAllApplied_groups (s : State) : (s.clearAllApplied).groups = s.groups := rfl
@[simp] theorem clearAllApplied_stamp (s : State) : (s.clearAllApplied).stamp = s.stamp := rfl
@[simp] theorem clearAllApplied_booths (s : State) : (s.clearAllApplied).booths = s.booths := rfl
@[simp] theorem clearAllApplied_channels (s : State) : (s.clearAllApplied).channels = s.channels := rfl
@[simp] theorem clearAllApplied_waitQueue (s : State) : (s.clearAllApplied).waitQueue = s.waitQueue := rfl
@[simp] theorem clearAllApplied_clocked (s : State) : (s.clearAllApplied).clocked = s.clocked := rfl
@[simp] theorem clearAllApplied_floorBus (s : State) : (s.clearAllApplied).floorBus = s.floorBus := rfl
@[simp] theorem clearAllApplied_clips (s : State) : (s.clearAllApplied).clips = s.clips := rfl
@[simp] theorem clearAllApplied_frameOut (s : State) : (s.clearAllApplied).frameOut = s.frameOut := rfl
@[simp] theorem clearAllApplied_ports (s : State) : (s.clearAllApplied).ports = s.ports := rfl
@[simp] theorem clearAllApplied_supervisor (s : State) : (s.clearAllApplied).supervisor = s.supervisor := rfl
@[simp] theorem clearAllApplied_interpPort (s : State) : (s.clearAllApplied).interpPort = s.interpPort := rfl
@[simp] theorem clearAllApplied_homePort (s : State) : (s.clearAllApplied).homePort = s.homePort := rfl
@[simp] theorem clearAllApplied_pending (s : State) : (s.clearAllApplied).pending = s.pending := rfl
@[simp] theorem clearAllApplied_clocks (s : State) : (s.clearAllApplied).clocks = s.clocks := rfl
@[simp] theorem rampAll_walls (s : State) : (s.rampAll).walls = s.walls := rfl
@[simp] theorem rampAll_applied (s : State) : (s.rampAll).applied = s.applied := rfl
@[simp] theorem rampAll_proposed (s : State) : (s.rampAll).proposed = s.proposed := rfl
@[simp] theorem rampAll_regroup (s : State) : (s.rampAll).regroup = s.regroup := rfl
@[simp] theorem rampAll_profiles (s : State) : (s.rampAll).profiles = s.profiles := rfl
@[simp] theorem rampAll_select (s : State) : (s.rampAll).select = s.select := rfl
@[simp] theorem rampAll_lines (s : State) : (s.rampAll).lines = s.lines := rfl
@[simp] theorem rampAll_seats (s : State) : (s.rampAll).seats = s.seats := rfl
@[simp] theorem rampAll_downlink (s : State) : (s.rampAll).downlink = s.downlink := rfl
@[simp] theorem rampAll_groups (s : State) : (s.rampAll).groups = s.groups := rfl
@[simp] theorem rampAll_stamp (s : State) : (s.rampAll).stamp = s.stamp := rfl
@[simp] theorem rampAll_booths (s : State) : (s.rampAll).booths = s.booths := rfl
@[simp] theorem rampAll_channels (s : State) : (s.rampAll).channels = s.channels := rfl
@[simp] theorem rampAll_waitQueue (s : State) : (s.rampAll).waitQueue = s.waitQueue := rfl
@[simp] theorem rampAll_clocked (s : State) : (s.rampAll).clocked = s.clocked := rfl
@[simp] theorem rampAll_floorBus (s : State) : (s.rampAll).floorBus = s.floorBus := rfl
@[simp] theorem rampAll_clips (s : State) : (s.rampAll).clips = s.clips := rfl
@[simp] theorem rampAll_frameOut (s : State) : (s.rampAll).frameOut = s.frameOut := rfl
@[simp] theorem rampAll_ports (s : State) : (s.rampAll).ports = s.ports := rfl
@[simp] theorem rampAll_supervisor (s : State) : (s.rampAll).supervisor = s.supervisor := rfl
@[simp] theorem rampAll_interpPort (s : State) : (s.rampAll).interpPort = s.interpPort := rfl
@[simp] theorem rampAll_homePort (s : State) : (s.rampAll).homePort = s.homePort := rfl
@[simp] theorem rampAll_pending (s : State) : (s.rampAll).pending = s.pending := rfl
@[simp] theorem rampAll_clocks (s : State) : (s.rampAll).clocks = s.clocks := rfl
@[simp] theorem unqueueGroup_walls (s : State) (g : Seg) : (s.unqueueGroup g).walls = s.walls := rfl
@[simp] theorem unqueueGroup_applied (s : State) (g : Seg) : (s.unqueueGroup g).applied = s.applied := rfl
@[simp] theorem unqueueGroup_proposed (s : State) (g : Seg) : (s.unqueueGroup g).proposed = s.proposed := rfl
@[simp] theorem unqueueGroup_regroup (s : State) (g : Seg) : (s.unqueueGroup g).regroup = s.regroup := rfl
@[simp] theorem unqueueGroup_profiles (s : State) (g : Seg) : (s.unqueueGroup g).profiles = s.profiles := rfl
@[simp] theorem unqueueGroup_select (s : State) (g : Seg) : (s.unqueueGroup g).select = s.select := rfl
@[simp] theorem unqueueGroup_lines (s : State) (g : Seg) : (s.unqueueGroup g).lines = s.lines := rfl
@[simp] theorem unqueueGroup_seats (s : State) (g : Seg) : (s.unqueueGroup g).seats = s.seats := rfl
@[simp] theorem unqueueGroup_downlink (s : State) (g : Seg) : (s.unqueueGroup g).downlink = s.downlink := rfl
@[simp] theorem unqueueGroup_groups (s : State) (g : Seg) : (s.unqueueGroup g).groups = s.groups := rfl
@[simp] theorem unqueueGroup_stamp (s : State) (g : Seg) : (s.unqueueGroup g).stamp = s.stamp := rfl
@[simp] theorem unqueueGroup_booths (s : State) (g : Seg) : (s.unqueueGroup g).booths = s.booths := rfl
@[simp] theorem unqueueGroup_channels (s : State) (g : Seg) : (s.unqueueGroup g).channels = s.channels := rfl
@[simp] theorem unqueueGroup_clocked (s : State) (g : Seg) : (s.unqueueGroup g).clocked = s.clocked := rfl
@[simp] theorem unqueueGroup_gains (s : State) (g : Seg) : (s.unqueueGroup g).gains = s.gains := rfl
@[simp] theorem unqueueGroup_floorBus (s : State) (g : Seg) : (s.unqueueGroup g).floorBus = s.floorBus := rfl
@[simp] theorem unqueueGroup_clips (s : State) (g : Seg) : (s.unqueueGroup g).clips = s.clips := rfl
@[simp] theorem unqueueGroup_frameOut (s : State) (g : Seg) : (s.unqueueGroup g).frameOut = s.frameOut := rfl
@[simp] theorem unqueueGroup_ports (s : State) (g : Seg) : (s.unqueueGroup g).ports = s.ports := rfl
@[simp] theorem unqueueGroup_supervisor (s : State) (g : Seg) : (s.unqueueGroup g).supervisor = s.supervisor := rfl
@[simp] theorem unqueueGroup_interpPort (s : State) (g : Seg) : (s.unqueueGroup g).interpPort = s.interpPort := rfl
@[simp] theorem unqueueGroup_homePort (s : State) (g : Seg) : (s.unqueueGroup g).homePort = s.homePort := rfl
@[simp] theorem unqueueGroup_pending (s : State) (g : Seg) : (s.unqueueGroup g).pending = s.pending := rfl
@[simp] theorem unqueueGroup_clocks (s : State) (g : Seg) : (s.unqueueGroup g).clocks = s.clocks := rfl
@[simp] theorem silenceChannel_walls (s : State) (c : ChanId) : (s.silenceChannel c).walls = s.walls := rfl
@[simp] theorem silenceChannel_applied (s : State) (c : ChanId) : (s.silenceChannel c).applied = s.applied := rfl
@[simp] theorem silenceChannel_proposed (s : State) (c : ChanId) : (s.silenceChannel c).proposed = s.proposed := rfl
@[simp] theorem silenceChannel_regroup (s : State) (c : ChanId) : (s.silenceChannel c).regroup = s.regroup := rfl
@[simp] theorem silenceChannel_profiles (s : State) (c : ChanId) : (s.silenceChannel c).profiles = s.profiles := rfl
@[simp] theorem silenceChannel_select (s : State) (c : ChanId) : (s.silenceChannel c).select = s.select := rfl
@[simp] theorem silenceChannel_lines (s : State) (c : ChanId) : (s.silenceChannel c).lines = s.lines := rfl
@[simp] theorem silenceChannel_seats (s : State) (c : ChanId) : (s.silenceChannel c).seats = s.seats := rfl
@[simp] theorem silenceChannel_downlink (s : State) (c : ChanId) : (s.silenceChannel c).downlink = s.downlink := rfl
@[simp] theorem silenceChannel_groups (s : State) (c : ChanId) : (s.silenceChannel c).groups = s.groups := rfl
@[simp] theorem silenceChannel_stamp (s : State) (c : ChanId) : (s.silenceChannel c).stamp = s.stamp := rfl
@[simp] theorem silenceChannel_booths (s : State) (c : ChanId) : (s.silenceChannel c).booths = s.booths := rfl
@[simp] theorem silenceChannel_channels (s : State) (c : ChanId) : (s.silenceChannel c).channels = s.channels := rfl
@[simp] theorem silenceChannel_waitQueue (s : State) (c : ChanId) : (s.silenceChannel c).waitQueue = s.waitQueue := rfl
@[simp] theorem silenceChannel_clocked (s : State) (c : ChanId) : (s.silenceChannel c).clocked = s.clocked := rfl
@[simp] theorem silenceChannel_floorBus (s : State) (c : ChanId) : (s.silenceChannel c).floorBus = s.floorBus := rfl
@[simp] theorem silenceChannel_clips (s : State) (c : ChanId) : (s.silenceChannel c).clips = s.clips := rfl
@[simp] theorem silenceChannel_frameOut (s : State) (c : ChanId) : (s.silenceChannel c).frameOut = s.frameOut := rfl
@[simp] theorem silenceChannel_ports (s : State) (c : ChanId) : (s.silenceChannel c).ports = s.ports := rfl
@[simp] theorem silenceChannel_supervisor (s : State) (c : ChanId) : (s.silenceChannel c).supervisor = s.supervisor := rfl
@[simp] theorem silenceChannel_interpPort (s : State) (c : ChanId) : (s.silenceChannel c).interpPort = s.interpPort := rfl
@[simp] theorem silenceChannel_homePort (s : State) (c : ChanId) : (s.silenceChannel c).homePort = s.homePort := rfl
@[simp] theorem silenceChannel_pending (s : State) (c : ChanId) : (s.silenceChannel c).pending = s.pending := rfl
@[simp] theorem silenceChannel_clocks (s : State) (c : ChanId) : (s.silenceChannel c).clocks = s.clocks := rfl
@[simp] theorem takeRoles_walls (s : State) : (s.takeRoles).walls = s.walls := rfl
@[simp] theorem takeRoles_applied (s : State) : (s.takeRoles).applied = s.applied := rfl
@[simp] theorem takeRoles_proposed (s : State) : (s.takeRoles).proposed = s.proposed := rfl
@[simp] theorem takeRoles_regroup (s : State) : (s.takeRoles).regroup = s.regroup := rfl
@[simp] theorem takeRoles_profiles (s : State) : (s.takeRoles).profiles = s.profiles := rfl
@[simp] theorem takeRoles_select (s : State) : (s.takeRoles).select = s.select := rfl
@[simp] theorem takeRoles_lines (s : State) : (s.takeRoles).lines = s.lines := rfl
@[simp] theorem takeRoles_seats (s : State) : (s.takeRoles).seats = s.seats := rfl
@[simp] theorem takeRoles_downlink (s : State) : (s.takeRoles).downlink = s.downlink := rfl
@[simp] theorem takeRoles_groups (s : State) : (s.takeRoles).groups = s.groups := rfl
@[simp] theorem takeRoles_stamp (s : State) : (s.takeRoles).stamp = s.stamp := rfl
@[simp] theorem takeRoles_channels (s : State) : (s.takeRoles).channels = s.channels := rfl
@[simp] theorem takeRoles_waitQueue (s : State) : (s.takeRoles).waitQueue = s.waitQueue := rfl
@[simp] theorem takeRoles_clocked (s : State) : (s.takeRoles).clocked = s.clocked := rfl
@[simp] theorem takeRoles_gains (s : State) : (s.takeRoles).gains = s.gains := rfl
@[simp] theorem takeRoles_floorBus (s : State) : (s.takeRoles).floorBus = s.floorBus := rfl
@[simp] theorem takeRoles_clips (s : State) : (s.takeRoles).clips = s.clips := rfl
@[simp] theorem takeRoles_frameOut (s : State) : (s.takeRoles).frameOut = s.frameOut := rfl
@[simp] theorem takeRoles_ports (s : State) : (s.takeRoles).ports = s.ports := rfl
@[simp] theorem takeRoles_supervisor (s : State) : (s.takeRoles).supervisor = s.supervisor := rfl
@[simp] theorem takeRoles_interpPort (s : State) : (s.takeRoles).interpPort = s.interpPort := rfl
@[simp] theorem takeRoles_homePort (s : State) : (s.takeRoles).homePort = s.homePort := rfl
@[simp] theorem takeRoles_pending (s : State) : (s.takeRoles).pending = s.pending := rfl
@[simp] theorem takeRoles_clocks (s : State) : (s.takeRoles).clocks = s.clocks := rfl
@[simp] theorem clearBuses_walls (s : State) : (s.clearBuses).walls = s.walls := rfl
@[simp] theorem clearBuses_applied (s : State) : (s.clearBuses).applied = s.applied := rfl
@[simp] theorem clearBuses_proposed (s : State) : (s.clearBuses).proposed = s.proposed := rfl
@[simp] theorem clearBuses_regroup (s : State) : (s.clearBuses).regroup = s.regroup := rfl
@[simp] theorem clearBuses_profiles (s : State) : (s.clearBuses).profiles = s.profiles := rfl
@[simp] theorem clearBuses_select (s : State) : (s.clearBuses).select = s.select := rfl
@[simp] theorem clearBuses_lines (s : State) : (s.clearBuses).lines = s.lines := rfl
@[simp] theorem clearBuses_seats (s : State) : (s.clearBuses).seats = s.seats := rfl
@[simp] theorem clearBuses_downlink (s : State) : (s.clearBuses).downlink = s.downlink := rfl
@[simp] theorem clearBuses_groups (s : State) : (s.clearBuses).groups = s.groups := rfl
@[simp] theorem clearBuses_stamp (s : State) : (s.clearBuses).stamp = s.stamp := rfl
@[simp] theorem clearBuses_booths (s : State) : (s.clearBuses).booths = s.booths := rfl
@[simp] theorem clearBuses_channels (s : State) : (s.clearBuses).channels = s.channels := rfl
@[simp] theorem clearBuses_waitQueue (s : State) : (s.clearBuses).waitQueue = s.waitQueue := rfl
@[simp] theorem clearBuses_clocked (s : State) : (s.clearBuses).clocked = s.clocked := rfl
@[simp] theorem clearBuses_gains (s : State) : (s.clearBuses).gains = s.gains := rfl
@[simp] theorem clearBuses_clips (s : State) : (s.clearBuses).clips = s.clips := rfl
@[simp] theorem clearBuses_frameOut (s : State) : (s.clearBuses).frameOut = s.frameOut := rfl
@[simp] theorem clearBuses_ports (s : State) : (s.clearBuses).ports = s.ports := rfl
@[simp] theorem clearBuses_supervisor (s : State) : (s.clearBuses).supervisor = s.supervisor := rfl
@[simp] theorem clearBuses_interpPort (s : State) : (s.clearBuses).interpPort = s.interpPort := rfl
@[simp] theorem clearBuses_homePort (s : State) : (s.clearBuses).homePort = s.homePort := rfl
@[simp] theorem clearBuses_pending (s : State) : (s.clearBuses).pending = s.pending := rfl
@[simp] theorem clearBuses_clocks (s : State) : (s.clearBuses).clocks = s.clocks := rfl

/-! ## The entries that an update leaves -/

@[simp] theorem setWall_line (s : State) (w : WallId) (f : Wall → Wall) (j : LineId) : (s.setWall w f).line j = s.line j := rfl
@[simp] theorem setWall_seat (s : State) (w : WallId) (f : Wall → Wall) (j : SeatId) : (s.setWall w f).seat j = s.seat j := rfl
@[simp] theorem setWall_group (s : State) (w : WallId) (f : Wall → Wall) (j : Seg) : (s.setWall w f).group j = s.group j := rfl
@[simp] theorem setWall_booth (s : State) (w : WallId) (f : Wall → Wall) (j : BoothId) : (s.setWall w f).booth j = s.booth j := rfl
@[simp] theorem setWall_channel (s : State) (w : WallId) (f : Wall → Wall) (j : ChanId) : (s.setWall w f).channel j = s.channel j := rfl
@[simp] theorem setWall_port (s : State) (w : WallId) (f : Wall → Wall) (j : PortId) : (s.setWall w f).port j = s.port j := rfl
@[simp] theorem setWall_gain (s : State) (w : WallId) (f : Wall → Wall) (j : PointId) : (s.setWall w f).gain j = s.gain j := rfl
@[simp] theorem setLine_wall (s : State) (l : LineId) (f : Line → Line) (j : WallId) : (s.setLine l f).wall j = s.wall j := rfl
@[simp] theorem setLine_seat (s : State) (l : LineId) (f : Line → Line) (j : SeatId) : (s.setLine l f).seat j = s.seat j := rfl
@[simp] theorem setLine_group (s : State) (l : LineId) (f : Line → Line) (j : Seg) : (s.setLine l f).group j = s.group j := rfl
@[simp] theorem setLine_booth (s : State) (l : LineId) (f : Line → Line) (j : BoothId) : (s.setLine l f).booth j = s.booth j := rfl
@[simp] theorem setLine_channel (s : State) (l : LineId) (f : Line → Line) (j : ChanId) : (s.setLine l f).channel j = s.channel j := rfl
@[simp] theorem setLine_port (s : State) (l : LineId) (f : Line → Line) (j : PortId) : (s.setLine l f).port j = s.port j := rfl
@[simp] theorem setLine_gain (s : State) (l : LineId) (f : Line → Line) (j : PointId) : (s.setLine l f).gain j = s.gain j := rfl
@[simp] theorem setSeat_wall (s : State) (i : SeatId) (f : Seat → Seat) (j : WallId) : (s.setSeat i f).wall j = s.wall j := rfl
@[simp] theorem setSeat_line (s : State) (i : SeatId) (f : Seat → Seat) (j : LineId) : (s.setSeat i f).line j = s.line j := rfl
@[simp] theorem setSeat_group (s : State) (i : SeatId) (f : Seat → Seat) (j : Seg) : (s.setSeat i f).group j = s.group j := rfl
@[simp] theorem setSeat_booth (s : State) (i : SeatId) (f : Seat → Seat) (j : BoothId) : (s.setSeat i f).booth j = s.booth j := rfl
@[simp] theorem setSeat_channel (s : State) (i : SeatId) (f : Seat → Seat) (j : ChanId) : (s.setSeat i f).channel j = s.channel j := rfl
@[simp] theorem setSeat_port (s : State) (i : SeatId) (f : Seat → Seat) (j : PortId) : (s.setSeat i f).port j = s.port j := rfl
@[simp] theorem setSeat_gain (s : State) (i : SeatId) (f : Seat → Seat) (j : PointId) : (s.setSeat i f).gain j = s.gain j := rfl
@[simp] theorem setGroup_wall (s : State) (g : Seg) (f : Group → Group) (j : WallId) : (s.setGroup g f).wall j = s.wall j := rfl
@[simp] theorem setGroup_line (s : State) (g : Seg) (f : Group → Group) (j : LineId) : (s.setGroup g f).line j = s.line j := rfl
@[simp] theorem setGroup_seat (s : State) (g : Seg) (f : Group → Group) (j : SeatId) : (s.setGroup g f).seat j = s.seat j := rfl
@[simp] theorem setGroup_booth (s : State) (g : Seg) (f : Group → Group) (j : BoothId) : (s.setGroup g f).booth j = s.booth j := rfl
@[simp] theorem setGroup_channel (s : State) (g : Seg) (f : Group → Group) (j : ChanId) : (s.setGroup g f).channel j = s.channel j := rfl
@[simp] theorem setGroup_port (s : State) (g : Seg) (f : Group → Group) (j : PortId) : (s.setGroup g f).port j = s.port j := rfl
@[simp] theorem setGroup_gain (s : State) (g : Seg) (f : Group → Group) (j : PointId) : (s.setGroup g f).gain j = s.gain j := rfl
@[simp] theorem setBooth_wall (s : State) (b : BoothId) (f : Booth → Booth) (j : WallId) : (s.setBooth b f).wall j = s.wall j := rfl
@[simp] theorem setBooth_line (s : State) (b : BoothId) (f : Booth → Booth) (j : LineId) : (s.setBooth b f).line j = s.line j := rfl
@[simp] theorem setBooth_seat (s : State) (b : BoothId) (f : Booth → Booth) (j : SeatId) : (s.setBooth b f).seat j = s.seat j := rfl
@[simp] theorem setBooth_group (s : State) (b : BoothId) (f : Booth → Booth) (j : Seg) : (s.setBooth b f).group j = s.group j := rfl
@[simp] theorem setBooth_channel (s : State) (b : BoothId) (f : Booth → Booth) (j : ChanId) : (s.setBooth b f).channel j = s.channel j := rfl
@[simp] theorem setBooth_port (s : State) (b : BoothId) (f : Booth → Booth) (j : PortId) : (s.setBooth b f).port j = s.port j := rfl
@[simp] theorem setBooth_gain (s : State) (b : BoothId) (f : Booth → Booth) (j : PointId) : (s.setBooth b f).gain j = s.gain j := rfl
@[simp] theorem setChannel_wall (s : State) (c : ChanId) (f : Channel → Channel) (j : WallId) : (s.setChannel c f).wall j = s.wall j := rfl
@[simp] theorem setChannel_line (s : State) (c : ChanId) (f : Channel → Channel) (j : LineId) : (s.setChannel c f).line j = s.line j := rfl
@[simp] theorem setChannel_seat (s : State) (c : ChanId) (f : Channel → Channel) (j : SeatId) : (s.setChannel c f).seat j = s.seat j := rfl
@[simp] theorem setChannel_group (s : State) (c : ChanId) (f : Channel → Channel) (j : Seg) : (s.setChannel c f).group j = s.group j := rfl
@[simp] theorem setChannel_booth (s : State) (c : ChanId) (f : Channel → Channel) (j : BoothId) : (s.setChannel c f).booth j = s.booth j := rfl
@[simp] theorem setChannel_port (s : State) (c : ChanId) (f : Channel → Channel) (j : PortId) : (s.setChannel c f).port j = s.port j := rfl
@[simp] theorem setChannel_gain (s : State) (c : ChanId) (f : Channel → Channel) (j : PointId) : (s.setChannel c f).gain j = s.gain j := rfl
@[simp] theorem setPort_wall (s : State) (p : PortId) (f : Port → Port) (j : WallId) : (s.setPort p f).wall j = s.wall j := rfl
@[simp] theorem setPort_line (s : State) (p : PortId) (f : Port → Port) (j : LineId) : (s.setPort p f).line j = s.line j := rfl
@[simp] theorem setPort_seat (s : State) (p : PortId) (f : Port → Port) (j : SeatId) : (s.setPort p f).seat j = s.seat j := rfl
@[simp] theorem setPort_group (s : State) (p : PortId) (f : Port → Port) (j : Seg) : (s.setPort p f).group j = s.group j := rfl
@[simp] theorem setPort_booth (s : State) (p : PortId) (f : Port → Port) (j : BoothId) : (s.setPort p f).booth j = s.booth j := rfl
@[simp] theorem setPort_channel (s : State) (p : PortId) (f : Port → Port) (j : ChanId) : (s.setPort p f).channel j = s.channel j := rfl
@[simp] theorem setPort_gain (s : State) (p : PortId) (f : Port → Port) (j : PointId) : (s.setPort p f).gain j = s.gain j := rfl
@[simp] theorem setProfile_wall (s : State) (p : ProfileId) (r : Profile) (j : WallId) : (s.setProfile p r).wall j = s.wall j := rfl
@[simp] theorem setProfile_line (s : State) (p : ProfileId) (r : Profile) (j : LineId) : (s.setProfile p r).line j = s.line j := rfl
@[simp] theorem setProfile_seat (s : State) (p : ProfileId) (r : Profile) (j : SeatId) : (s.setProfile p r).seat j = s.seat j := rfl
@[simp] theorem setProfile_group (s : State) (p : ProfileId) (r : Profile) (j : Seg) : (s.setProfile p r).group j = s.group j := rfl
@[simp] theorem setProfile_booth (s : State) (p : ProfileId) (r : Profile) (j : BoothId) : (s.setProfile p r).booth j = s.booth j := rfl
@[simp] theorem setProfile_channel (s : State) (p : ProfileId) (r : Profile) (j : ChanId) : (s.setProfile p r).channel j = s.channel j := rfl
@[simp] theorem setProfile_port (s : State) (p : ProfileId) (r : Profile) (j : PortId) : (s.setProfile p r).port j = s.port j := rfl
@[simp] theorem setProfile_gain (s : State) (p : ProfileId) (r : Profile) (j : PointId) : (s.setProfile p r).gain j = s.gain j := rfl
@[simp] theorem setDesk_wall (s : State) (b : BoothId) (d : DeskNo) (f : Desk → Desk) (j : WallId) : (s.setDesk b d f).wall j = s.wall j := rfl
@[simp] theorem setDesk_line (s : State) (b : BoothId) (d : DeskNo) (f : Desk → Desk) (j : LineId) : (s.setDesk b d f).line j = s.line j := rfl
@[simp] theorem setDesk_seat (s : State) (b : BoothId) (d : DeskNo) (f : Desk → Desk) (j : SeatId) : (s.setDesk b d f).seat j = s.seat j := rfl
@[simp] theorem setDesk_group (s : State) (b : BoothId) (d : DeskNo) (f : Desk → Desk) (j : Seg) : (s.setDesk b d f).group j = s.group j := rfl
@[simp] theorem setDesk_channel (s : State) (b : BoothId) (d : DeskNo) (f : Desk → Desk) (j : ChanId) : (s.setDesk b d f).channel j = s.channel j := rfl
@[simp] theorem setDesk_port (s : State) (b : BoothId) (d : DeskNo) (f : Desk → Desk) (j : PortId) : (s.setDesk b d f).port j = s.port j := rfl
@[simp] theorem setDesk_gain (s : State) (b : BoothId) (d : DeskNo) (f : Desk → Desk) (j : PointId) : (s.setDesk b d f).gain j = s.gain j := rfl
@[simp] theorem postTo_wall (s : State) (who : PortId → Bool) (n : Notice) (j : WallId) : (s.postTo who n).wall j = s.wall j := rfl
@[simp] theorem postTo_line (s : State) (who : PortId → Bool) (n : Notice) (j : LineId) : (s.postTo who n).line j = s.line j := rfl
@[simp] theorem postTo_seat (s : State) (who : PortId → Bool) (n : Notice) (j : SeatId) : (s.postTo who n).seat j = s.seat j := rfl
@[simp] theorem postTo_group (s : State) (who : PortId → Bool) (n : Notice) (j : Seg) : (s.postTo who n).group j = s.group j := rfl
@[simp] theorem postTo_booth (s : State) (who : PortId → Bool) (n : Notice) (j : BoothId) : (s.postTo who n).booth j = s.booth j := rfl
@[simp] theorem postTo_channel (s : State) (who : PortId → Bool) (n : Notice) (j : ChanId) : (s.postTo who n).channel j = s.channel j := rfl
@[simp] theorem postTo_gain (s : State) (who : PortId → Bool) (n : Notice) (j : PointId) : (s.postTo who n).gain j = s.gain j := rfl
@[simp] theorem post_wall (s : State) (k : NoticeKind) (g : Option Seg) (x : Subject) (v : Option Nat) (j : WallId) : (s.post k g x v).wall j = s.wall j := rfl
@[simp] theorem post_line (s : State) (k : NoticeKind) (g : Option Seg) (x : Subject) (v : Option Nat) (j : LineId) : (s.post k g x v).line j = s.line j := rfl
@[simp] theorem post_seat (s : State) (k : NoticeKind) (g : Option Seg) (x : Subject) (v : Option Nat) (j : SeatId) : (s.post k g x v).seat j = s.seat j := rfl
@[simp] theorem post_group (s : State) (k : NoticeKind) (g : Option Seg) (x : Subject) (v : Option Nat) (j : Seg) : (s.post k g x v).group j = s.group j := rfl
@[simp] theorem post_booth (s : State) (k : NoticeKind) (g : Option Seg) (x : Subject) (v : Option Nat) (j : BoothId) : (s.post k g x v).booth j = s.booth j := rfl
@[simp] theorem post_channel (s : State) (k : NoticeKind) (g : Option Seg) (x : Subject) (v : Option Nat) (j : ChanId) : (s.post k g x v).channel j = s.channel j := rfl
@[simp] theorem post_gain (s : State) (k : NoticeKind) (g : Option Seg) (x : Subject) (v : Option Nat) (j : PointId) : (s.post k g x v).gain j = s.gain j := rfl
@[simp] theorem flagChange_wall (s : State) (g : Seg) (j : WallId) : (s.flagChange g).wall j = s.wall j := rfl
@[simp] theorem flagChange_line (s : State) (g : Seg) (j : LineId) : (s.flagChange g).line j = s.line j := rfl
@[simp] theorem flagChange_seat (s : State) (g : Seg) (j : SeatId) : (s.flagChange g).seat j = s.seat j := rfl
@[simp] theorem flagChange_group (s : State) (g : Seg) (j : Seg) : (s.flagChange g).group j = s.group j := rfl
@[simp] theorem flagChange_booth (s : State) (g : Seg) (j : BoothId) : (s.flagChange g).booth j = s.booth j := rfl
@[simp] theorem flagChange_channel (s : State) (g : Seg) (j : ChanId) : (s.flagChange g).channel j = s.channel j := rfl
@[simp] theorem flagChange_gain (s : State) (g : Seg) (j : PointId) : (s.flagChange g).gain j = s.gain j := rfl
@[simp] theorem respond_wall (s : State) (p : PortId) (c : ResultCode) (d : List Byte) (j : WallId) : (s.respond p c d).wall j = s.wall j := rfl
@[simp] theorem respond_line (s : State) (p : PortId) (c : ResultCode) (d : List Byte) (j : LineId) : (s.respond p c d).line j = s.line j := rfl
@[simp] theorem respond_seat (s : State) (p : PortId) (c : ResultCode) (d : List Byte) (j : SeatId) : (s.respond p c d).seat j = s.seat j := rfl
@[simp] theorem respond_group (s : State) (p : PortId) (c : ResultCode) (d : List Byte) (j : Seg) : (s.respond p c d).group j = s.group j := rfl
@[simp] theorem respond_booth (s : State) (p : PortId) (c : ResultCode) (d : List Byte) (j : BoothId) : (s.respond p c d).booth j = s.booth j := rfl
@[simp] theorem respond_channel (s : State) (p : PortId) (c : ResultCode) (d : List Byte) (j : ChanId) : (s.respond p c d).channel j = s.channel j := rfl
@[simp] theorem respond_gain (s : State) (p : PortId) (c : ResultCode) (d : List Byte) (j : PointId) : (s.respond p c d).gain j = s.gain j := rfl
@[simp] theorem retarget_wall (s : State) (j : WallId) : (s.retarget).wall j = s.wall j := rfl
@[simp] theorem retarget_line (s : State) (j : LineId) : (s.retarget).line j = s.line j := rfl
@[simp] theorem retarget_seat (s : State) (j : SeatId) : (s.retarget).seat j = s.seat j := rfl
@[simp] theorem retarget_group (s : State) (j : Seg) : (s.retarget).group j = s.group j := rfl
@[simp] theorem retarget_booth (s : State) (j : BoothId) : (s.retarget).booth j = s.booth j := rfl
@[simp] theorem retarget_channel (s : State) (j : ChanId) : (s.retarget).channel j = s.channel j := rfl
@[simp] theorem retarget_port (s : State) (j : PortId) : (s.retarget).port j = s.port j := rfl
@[simp] theorem clearApplied_wall (s : State) (p : PointId) (j : WallId) : (s.clearApplied p).wall j = s.wall j := rfl
@[simp] theorem clearApplied_line (s : State) (p : PointId) (j : LineId) : (s.clearApplied p).line j = s.line j := rfl
@[simp] theorem clearApplied_seat (s : State) (p : PointId) (j : SeatId) : (s.clearApplied p).seat j = s.seat j := rfl
@[simp] theorem clearApplied_group (s : State) (p : PointId) (j : Seg) : (s.clearApplied p).group j = s.group j := rfl
@[simp] theorem clearApplied_booth (s : State) (p : PointId) (j : BoothId) : (s.clearApplied p).booth j = s.booth j := rfl
@[simp] theorem clearApplied_channel (s : State) (p : PointId) (j : ChanId) : (s.clearApplied p).channel j = s.channel j := rfl
@[simp] theorem clearApplied_port (s : State) (p : PointId) (j : PortId) : (s.clearApplied p).port j = s.port j := rfl
@[simp] theorem clearAllApplied_wall (s : State) (j : WallId) : (s.clearAllApplied).wall j = s.wall j := rfl
@[simp] theorem clearAllApplied_line (s : State) (j : LineId) : (s.clearAllApplied).line j = s.line j := rfl
@[simp] theorem clearAllApplied_seat (s : State) (j : SeatId) : (s.clearAllApplied).seat j = s.seat j := rfl
@[simp] theorem clearAllApplied_group (s : State) (j : Seg) : (s.clearAllApplied).group j = s.group j := rfl
@[simp] theorem clearAllApplied_booth (s : State) (j : BoothId) : (s.clearAllApplied).booth j = s.booth j := rfl
@[simp] theorem clearAllApplied_channel (s : State) (j : ChanId) : (s.clearAllApplied).channel j = s.channel j := rfl
@[simp] theorem clearAllApplied_port (s : State) (j : PortId) : (s.clearAllApplied).port j = s.port j := rfl
@[simp] theorem rampAll_wall (s : State) (j : WallId) : (s.rampAll).wall j = s.wall j := rfl
@[simp] theorem rampAll_line (s : State) (j : LineId) : (s.rampAll).line j = s.line j := rfl
@[simp] theorem rampAll_seat (s : State) (j : SeatId) : (s.rampAll).seat j = s.seat j := rfl
@[simp] theorem rampAll_group (s : State) (j : Seg) : (s.rampAll).group j = s.group j := rfl
@[simp] theorem rampAll_booth (s : State) (j : BoothId) : (s.rampAll).booth j = s.booth j := rfl
@[simp] theorem rampAll_channel (s : State) (j : ChanId) : (s.rampAll).channel j = s.channel j := rfl
@[simp] theorem rampAll_port (s : State) (j : PortId) : (s.rampAll).port j = s.port j := rfl
@[simp] theorem unqueueGroup_wall (s : State) (g : Seg) (j : WallId) : (s.unqueueGroup g).wall j = s.wall j := rfl
@[simp] theorem unqueueGroup_line (s : State) (g : Seg) (j : LineId) : (s.unqueueGroup g).line j = s.line j := rfl
@[simp] theorem unqueueGroup_seat (s : State) (g : Seg) (j : SeatId) : (s.unqueueGroup g).seat j = s.seat j := rfl
@[simp] theorem unqueueGroup_group (s : State) (g : Seg) (j : Seg) : (s.unqueueGroup g).group j = s.group j := rfl
@[simp] theorem unqueueGroup_booth (s : State) (g : Seg) (j : BoothId) : (s.unqueueGroup g).booth j = s.booth j := rfl
@[simp] theorem unqueueGroup_channel (s : State) (g : Seg) (j : ChanId) : (s.unqueueGroup g).channel j = s.channel j := rfl
@[simp] theorem unqueueGroup_port (s : State) (g : Seg) (j : PortId) : (s.unqueueGroup g).port j = s.port j := rfl
@[simp] theorem unqueueGroup_gain (s : State) (g : Seg) (j : PointId) : (s.unqueueGroup g).gain j = s.gain j := rfl
@[simp] theorem silenceChannel_wall (s : State) (c : ChanId) (j : WallId) : (s.silenceChannel c).wall j = s.wall j := rfl
@[simp] theorem silenceChannel_line (s : State) (c : ChanId) (j : LineId) : (s.silenceChannel c).line j = s.line j := rfl
@[simp] theorem silenceChannel_seat (s : State) (c : ChanId) (j : SeatId) : (s.silenceChannel c).seat j = s.seat j := rfl
@[simp] theorem silenceChannel_group (s : State) (c : ChanId) (j : Seg) : (s.silenceChannel c).group j = s.group j := rfl
@[simp] theorem silenceChannel_booth (s : State) (c : ChanId) (j : BoothId) : (s.silenceChannel c).booth j = s.booth j := rfl
@[simp] theorem silenceChannel_channel (s : State) (c : ChanId) (j : ChanId) : (s.silenceChannel c).channel j = s.channel j := rfl
@[simp] theorem silenceChannel_port (s : State) (c : ChanId) (j : PortId) : (s.silenceChannel c).port j = s.port j := rfl
@[simp] theorem takeRoles_wall (s : State) (j : WallId) : (s.takeRoles).wall j = s.wall j := rfl
@[simp] theorem takeRoles_line (s : State) (j : LineId) : (s.takeRoles).line j = s.line j := rfl
@[simp] theorem takeRoles_seat (s : State) (j : SeatId) : (s.takeRoles).seat j = s.seat j := rfl
@[simp] theorem takeRoles_group (s : State) (j : Seg) : (s.takeRoles).group j = s.group j := rfl
@[simp] theorem takeRoles_channel (s : State) (j : ChanId) : (s.takeRoles).channel j = s.channel j := rfl
@[simp] theorem takeRoles_port (s : State) (j : PortId) : (s.takeRoles).port j = s.port j := rfl
@[simp] theorem takeRoles_gain (s : State) (j : PointId) : (s.takeRoles).gain j = s.gain j := rfl
@[simp] theorem clearBuses_wall (s : State) (j : WallId) : (s.clearBuses).wall j = s.wall j := rfl
@[simp] theorem clearBuses_line (s : State) (j : LineId) : (s.clearBuses).line j = s.line j := rfl
@[simp] theorem clearBuses_seat (s : State) (j : SeatId) : (s.clearBuses).seat j = s.seat j := rfl
@[simp] theorem clearBuses_group (s : State) (j : Seg) : (s.clearBuses).group j = s.group j := rfl
@[simp] theorem clearBuses_booth (s : State) (j : BoothId) : (s.clearBuses).booth j = s.booth j := rfl
@[simp] theorem clearBuses_channel (s : State) (j : ChanId) : (s.clearBuses).channel j = s.channel j := rfl
@[simp] theorem clearBuses_port (s : State) (j : PortId) : (s.clearBuses).port j = s.port j := rfl
@[simp] theorem clearBuses_gain (s : State) (j : PointId) : (s.clearBuses).gain j = s.gain j := rfl

end Sys2Proof.Machine.State
end

