-- ==== Sys2Proof/Laws/Booths.lean ====
section
/-! SUPPORT. What a frame time of a booth can do to its runs and counters. -/

namespace Sys2Proof.Machine.State

variable (s : State) (b : BoothId)

/-- While UNCLOCKED a missing frame only silences the stream (log entry 38). -/
theorem missFrame_unclocked (h : s.clocked = false) : s.missFrame b = s.setBooth b fun r => { r with stream := 0 } := by
  simp [missFrame, h]

/-- Short of the 4800th, a missing frame is silence and one more on the run and the lost-frame counter (R94). -/
theorem missFrame_short (h : s.clocked = true) (hr : (s.booth b).run + 1 < Config.offlineRun) :
    s.missFrame b =
      s.setBooth b fun r => { r with stream := 0, lostFrames := bump r.lostFrames, run := r.run + 1 } := by
  simp [missFrame, countMissing, h, hr]

/-- The 4800th missing frame in a row takes the booth OFFLINE (R95). -/
theorem missFrame_last (h : s.clocked = true) (hr : Config.offlineRun ≤ (s.booth b).run + 1) :
    s.missFrame b =
      ((s.setBooth b fun r => { r with stream := 0, lostFrames := bump r.lostFrames, run := r.run + 1 }).goOffline b).finish := by
  simp [missFrame, countMissing, h, Nat.not_lt.mpr hr]

/-- While UNCLOCKED no missing frame takes a run or a lost-frame counter on (R94, R149; log entry 38). -/
theorem takeFrame_run_held (c : BoothId) (on : (s.booth b).online = true) (h : s.clocked = false) :
    ((s.takeFrame b none).booth c).run = (s.booth c).run ∧ ((s.takeFrame b none).booth c).lostFrames = (s.booth c).lostFrames := by
  have e : s.takeFrame b none = s.setBooth b fun r => { r with stream := 0 } := by
    unfold takeFrame; rw [on]; exact missFrame_unclocked s b h
  rw [e, setBooth_booth]
  split <;> rename_i hc
  · subst hc; exact ⟨rfl, rfl⟩
  · exact ⟨rfl, rfl⟩

end Sys2Proof.Machine.State
end

