-- ==== Sys2Proof/Laws/Bytes.lean ====
section
/-! SUPPORT. What a byte of a transaction can do (R165). -/

namespace Sys2Proof.Machine

open Sys2Proof

@[simp] theorem Port.shiftOut_response (r : Port) : r.shiftOut.response = r.response.tail := rfl
@[simp] theorem Port.shiftOut_dataOut (r : Port) : r.shiftOut.dataOut = some (r.response.headD 0) := rfl
@[simp] theorem Port.shiftOut_frame (r : Port) : r.shiftOut.frame = r.frame := rfl
@[simp] theorem Port.shiftOut_stored (r : Port) : r.shiftOut.stored = r.stored := rfl
@[simp] theorem Port.shiftOut_queue (r : Port) : r.shiftOut.queue = r.queue := rfl
@[simp] theorem Port.shiftOut_timer (r : Port) : r.shiftOut.timer = r.timer := rfl

namespace State

/-- All that a byte clocked on a port can do: nothing with select high, a byte stored, a command taken, a byte shifted out. -/
theorem clockByte_cases (s : State) (p : PortId) (b : Byte) :
    let t := s.setPort p fun r => { r with stored := r.stored ++ [b] }
    ((s.port p).frame = .idle ∧ s.clockByte p b = .next s) ∨
    ((s.port p).frame = .receiving ∧ decodeFrame p ((s.port p).stored ++ [b]) = none ∧ s.clockByte p b = .next t) ∨
    (∃ i, (s.port p).frame = .receiving ∧ decodeFrame p ((s.port p).stored ++ [b]) = some i ∧ s.clockByte p b = exec i t) ∨
    ((s.port p).frame = .responding ∧ s.clockByte p b = .next (s.setPort p Port.shiftOut)) := by
  intro t
  have ht : (t.port p).stored = (s.port p).stored ++ [b] := by simp [t]
  cases hf : (s.port p).frame with
  | idle => simp [clockByte, hf]
  | responding => simp [clockByte, hf]
  | receiving =>
    cases hd : decodeFrame p ((s.port p).stored ++ [b]) with
    | none => simp [clockByte, hf, receiveByte, show (s.setPort p fun r => { r with stored := r.stored ++ [b] }) = t from rfl, ht, hd]
    | some i => simp [clockByte, hf, receiveByte, show (s.setPort p fun r => { r with stored := r.stored ++ [b] }) = t from rfl, ht, hd]

/-- All that a step can do: the command in front, the byte in front, or a millisecond. -/
theorem step_cases (s : State) :
    (∃ c rest, s.pending = c :: rest ∧ step s = exec c { s with pending := rest }) ∨
    (∃ p b rest, s.pending = [] ∧ s.clocks = (p, b) :: rest ∧ step s = State.clockByte { s with clocks := rest } p b) ∨
    (s.pending = [] ∧ s.clocks = [] ∧ step s = .next s.tick) := by
  cases hp : s.pending with
  | cons c rest => exact .inl ⟨c, rest, rfl, by simp [step, hp]⟩
  | nil =>
    cases hc : s.clocks with
    | nil => exact .inr (.inr ⟨rfl, rfl, by simp [step, hp, idle, hc]⟩)
    | cons x rest => exact .inr (.inl ⟨x.1, x.2, rest, rfl, rfl, by simp [step, hp, idle, hc]⟩)

end State

/-- A run of one step is that step. -/
theorem run_one (s : State) : core.run 1 s = step s := by
  change _ = core.step s
  cases h : core.step s <;> simp [Host.Core.run, h]

/-- A run whose first step answers a next state goes on from it. -/
theorem run_next {n : Nat} {s t : State} (h : step s = .next t) : core.run (n + 1) s = core.run n t := by
  have h' : core.step s = .next t := h
  simp [Host.Core.run, h']

end Sys2Proof.Machine
end

