-- ==== Sys2Proof/Laws/Ops.lean ====
section
/-! SUPPORT. What each shared operation of Ops.lean does, said once. -/

namespace Sys2Proof.Machine

/-! ## Offered notices -/

namespace Port

variable (n : Notice) (r : Port)

@[simp] theorem offer_frame : (r.offer n).frame = r.frame := by unfold offer; (repeat' split) <;> rfl
@[simp] theorem offer_present : (r.offer n).present = r.present := by unfold offer; (repeat' split) <;> rfl
@[simp] theorem offer_timeout : (r.offer n).timeout = r.timeout := by unfold offer; (repeat' split) <;> rfl
@[simp] theorem offer_fenced : (r.offer n).fenced = r.fenced := by unfold offer; (repeat' split) <;> rfl
@[simp] theorem offer_subscription : (r.offer n).subscription = r.subscription := by unfold offer; (repeat' split) <;> rfl
@[simp] theorem offer_load : (r.offer n).load = r.load := by unfold offer; (repeat' split) <;> rfl
@[simp] theorem offer_snapshot : (r.offer n).snapshot = r.snapshot := by unfold offer; (repeat' split) <;> rfl
@[simp] theorem offer_cursor : (r.offer n).cursor = r.cursor := by unfold offer; (repeat' split) <;> rfl
@[simp] theorem offer_changes : (r.offer n).changes = r.changes := by unfold offer; (repeat' split) <;> rfl
@[simp] theorem offer_shortFrames : (r.offer n).shortFrames = r.shortFrames := by unfold offer; (repeat' split) <;> rfl
@[simp] theorem offer_response : (r.offer n).response = r.response := by unfold offer; (repeat' split) <;> rfl

end Port

namespace State

/-! ## The fields that an operation leaves -/

@[simp] theorem send_walls (s : State) (i : SeatId) (x : SeatOrder) : (s.send i x).walls = s.walls := by unfold send; split <;> rfl
@[simp] theorem send_applied (s : State) (i : SeatId) (x : SeatOrder) : (s.send i x).applied = s.applied := by unfold send; split <;> rfl
@[simp] theorem send_proposed (s : State) (i : SeatId) (x : SeatOrder) : (s.send i x).proposed = s.proposed := by unfold send; split <;> rfl
@[simp] theorem send_regroup (s : State) (i : SeatId) (x : SeatOrder) : (s.send i x).regroup = s.regroup := by unfold send; split <;> rfl
@[simp] theorem send_profiles (s : State) (i : SeatId) (x : SeatOrder) : (s.send i x).profiles = s.profiles := by unfold send; split <;> rfl
@[simp] theorem send_select (s : State) (i : SeatId) (x : SeatOrder) : (s.send i x).select = s.select := by unfold send; split <;> rfl
@[simp] theorem send_lines (s : State) (i : SeatId) (x : SeatOrder) : (s.send i x).lines = s.lines := by unfold send; split <;> rfl
@[simp] theorem send_seats (s : State) (i : SeatId) (x : SeatOrder) : (s.send i x).seats = s.seats := by unfold send; split <;> rfl
@[simp] theorem send_groups (s : State) (i : SeatId) (x : SeatOrder) : (s.send i x).groups = s.groups := by unfold send; split <;> rfl
@[simp] theorem send_stamp (s : State) (i : SeatId) (x : SeatOrder) : (s.send i x).stamp = s.stamp := by unfold send; split <;> rfl
@[simp] theorem send_booths (s : State) (i : SeatId) (x : SeatOrder) : (s.send i x).booths = s.booths := by unfold send; split <;> rfl
@[simp] theorem send_channels (s : State) (i : SeatId) (x : SeatOrder) : (s.send i x).channels = s.channels := by unfold send; split <;> rfl
@[simp] theorem send_waitQueue (s : State) (i : SeatId) (x : SeatOrder) : (s.send i x).waitQueue = s.waitQueue := by unfold send; split <;> rfl
@[simp] theorem send_clocked (s : State) (i : SeatId) (x : SeatOrder) : (s.send i x).clocked = s.clocked := by unfold send; split <;> rfl
@[simp] theorem send_gains (s : State) (i : SeatId) (x : SeatOrder) : (s.send i x).gains = s.gains := by unfold send; split <;> rfl
@[simp] theorem send_floorBus (s : State) (i : SeatId) (x : SeatOrder) : (s.send i x).floorBus = s.floorBus := by unfold send; split <;> rfl
@[simp] theorem send_clips (s : State) (i : SeatId) (x : SeatOrder) : (s.send i x).clips = s.clips := by unfold send; split <;> rfl
@[simp] theorem send_frameOut (s : State) (i : SeatId) (x : SeatOrder) : (s.send i x).frameOut = s.frameOut := by unfold send; split <;> rfl
@[simp] theorem send_ports (s : State) (i : SeatId) (x : SeatOrder) : (s.send i x).ports = s.ports := by unfold send; split <;> rfl
@[simp] theorem send_supervisor (s : State) (i : SeatId) (x : SeatOrder) : (s.send i x).supervisor = s.supervisor := by unfold send; split <;> rfl
@[simp] theorem send_interpPort (s : State) (i : SeatId) (x : SeatOrder) : (s.send i x).interpPort = s.interpPort := by unfold send; split <;> rfl
@[simp] theorem send_homePort (s : State) (i : SeatId) (x : SeatOrder) : (s.send i x).homePort = s.homePort := by unfold send; split <;> rfl
@[simp] theorem send_pending (s : State) (i : SeatId) (x : SeatOrder) : (s.send i x).pending = s.pending := by unfold send; split <;> rfl
@[simp] theorem send_clocks (s : State) (i : SeatId) (x : SeatOrder) : (s.send i x).clocks = s.clocks := by unfold send; split <;> rfl
@[simp] theorem send_wall (s : State) (i : SeatId) (x : SeatOrder) (j : WallId) : (s.send i x).wall j = s.wall j := by simp [wall]
@[simp] theorem send_line (s : State) (i : SeatId) (x : SeatOrder) (j : LineId) : (s.send i x).line j = s.line j := by simp [line]
@[simp] theorem send_seat (s : State) (i : SeatId) (x : SeatOrder) (j : SeatId) : (s.send i x).seat j = s.seat j := by simp [seat]
@[simp] theorem send_group (s : State) (i : SeatId) (x : SeatOrder) (j : Seg) : (s.send i x).group j = s.group j := by simp [group]
@[simp] theorem send_booth (s : State) (i : SeatId) (x : SeatOrder) (j : BoothId) : (s.send i x).booth j = s.booth j := by simp [booth]
@[simp] theorem send_channel (s : State) (i : SeatId) (x : SeatOrder) (j : ChanId) : (s.send i x).channel j = s.channel j := by simp [channel]
@[simp] theorem send_port (s : State) (i : SeatId) (x : SeatOrder) (j : PortId) : (s.send i x).port j = s.port j := by simp [port]
@[simp] theorem send_gain (s : State) (i : SeatId) (x : SeatOrder) (j : PointId) : (s.send i x).gain j = s.gain j := by simp [gain]
@[simp] theorem setLight_walls (s : State) (i : SeatId) (x : Light) : (s.setLight i x).walls = s.walls := by simp [setLight]
@[simp] theorem setLight_applied (s : State) (i : SeatId) (x : Light) : (s.setLight i x).applied = s.applied := by simp [setLight]
@[simp] theorem setLight_proposed (s : State) (i : SeatId) (x : Light) : (s.setLight i x).proposed = s.proposed := by simp [setLight]
@[simp] theorem setLight_regroup (s : State) (i : SeatId) (x : Light) : (s.setLight i x).regroup = s.regroup := by simp [setLight]
@[simp] theorem setLight_profiles (s : State) (i : SeatId) (x : Light) : (s.setLight i x).profiles = s.profiles := by simp [setLight]
@[simp] theorem setLight_select (s : State) (i : SeatId) (x : Light) : (s.setLight i x).select = s.select := by simp [setLight]
@[simp] theorem setLight_lines (s : State) (i : SeatId) (x : Light) : (s.setLight i x).lines = s.lines := by simp [setLight]
@[simp] theorem setLight_groups (s : State) (i : SeatId) (x : Light) : (s.setLight i x).groups = s.groups := by simp [setLight]
@[simp] theorem setLight_stamp (s : State) (i : SeatId) (x : Light) : (s.setLight i x).stamp = s.stamp := by simp [setLight]
@[simp] theorem setLight_booths (s : State) (i : SeatId) (x : Light) : (s.setLight i x).booths = s.booths := by simp [setLight]
@[simp] theorem setLight_channels (s : State) (i : SeatId) (x : Light) : (s.setLight i x).channels = s.channels := by simp [setLight]
@[simp] theorem setLight_waitQueue (s : State) (i : SeatId) (x : Light) : (s.setLight i x).waitQueue = s.waitQueue := by simp [setLight]
@[simp] theorem setLight_clocked (s : State) (i : SeatId) (x : Light) : (s.setLight i x).clocked = s.clocked := by simp [setLight]
@[simp] theorem setLight_gains (s : State) (i : SeatId) (x : Light) : (s.setLight i x).gains = s.gains := by simp [setLight]
@[simp] theorem setLight_floorBus (s : State) (i : SeatId) (x : Light) : (s.setLight i x).floorBus = s.floorBus := by simp [setLight]
@[simp] theorem setLight_clips (s : State) (i : SeatId) (x : Light) : (s.setLight i x).clips = s.clips := by simp [setLight]
@[simp] theorem setLight_frameOut (s : State) (i : SeatId) (x : Light) : (s.setLight i x).frameOut = s.frameOut := by simp [setLight]
@[simp] theorem setLight_ports (s : State) (i : SeatId) (x : Light) : (s.setLight i x).ports = s.ports := by simp [setLight]
@[simp] theorem setLight_supervisor (s : State) (i : SeatId) (x : Light) : (s.setLight i x).supervisor = s.supervisor := by simp [setLight]
@[simp] theorem setLight_interpPort (s : State) (i : SeatId) (x : Light) : (s.setLight i x).interpPort = s.interpPort := by simp [setLight]
@[simp] theorem setLight_homePort (s : State) (i : SeatId) (x : Light) : (s.setLight i x).homePort = s.homePort := by simp [setLight]
@[simp] theorem setLight_pending (s : State) (i : SeatId) (x : Light) : (s.setLight i x).pending = s.pending := by simp [setLight]
@[simp] theorem setLight_clocks (s : State) (i : SeatId) (x : Light) : (s.setLight i x).clocks = s.clocks := by simp [setLight]
@[simp] theorem setLight_wall (s : State) (i : SeatId) (x : Light) (j : WallId) : (s.setLight i x).wall j = s.wall j := by simp [wall]
@[simp] theorem setLight_line (s : State) (i : SeatId) (x : Light) (j : LineId) : (s.setLight i x).line j = s.line j := by simp [line]
@[simp] theorem setLight_group (s : State) (i : SeatId) (x : Light) (j : Seg) : (s.setLight i x).group j = s.group j := by simp [group]
@[simp] theorem setLight_booth (s : State) (i : SeatId) (x : Light) (j : BoothId) : (s.setLight i x).booth j = s.booth j := by simp [booth]
@[simp] theorem setLight_channel (s : State) (i : SeatId) (x : Light) (j : ChanId) : (s.setLight i x).channel j = s.channel j := by simp [channel]
@[simp] theorem setLight_port (s : State) (i : SeatId) (x : Light) (j : PortId) : (s.setLight i x).port j = s.port j := by simp [port]
@[simp] theorem setLight_gain (s : State) (i : SeatId) (x : Light) (j : PointId) : (s.setLight i x).gain j = s.gain j := by simp [gain]
@[simp] theorem sendSpeaker_walls (s : State) (i : SeatId) : (s.sendSpeaker i).walls = s.walls := by simp [sendSpeaker]
@[simp] theorem sendSpeaker_applied (s : State) (i : SeatId) : (s.sendSpeaker i).applied = s.applied := by simp [sendSpeaker]
@[simp] theorem sendSpeaker_proposed (s : State) (i : SeatId) : (s.sendSpeaker i).proposed = s.proposed := by simp [sendSpeaker]
@[simp] theorem sendSpeaker_regroup (s : State) (i : SeatId) : (s.sendSpeaker i).regroup = s.regroup := by simp [sendSpeaker]
@[simp] theorem sendSpeaker_profiles (s : State) (i : SeatId) : (s.sendSpeaker i).profiles = s.profiles := by simp [sendSpeaker]
@[simp] theorem sendSpeaker_select (s : State) (i : SeatId) : (s.sendSpeaker i).select = s.select := by simp [sendSpeaker]
@[simp] theorem sendSpeaker_lines (s : State) (i : SeatId) : (s.sendSpeaker i).lines = s.lines := by simp [sendSpeaker]
@[simp] theorem sendSpeaker_groups (s : State) (i : SeatId) : (s.sendSpeaker i).groups = s.groups := by simp [sendSpeaker]
@[simp] theorem sendSpeaker_stamp (s : State) (i : SeatId) : (s.sendSpeaker i).stamp = s.stamp := by simp [sendSpeaker]
@[simp] theorem sendSpeaker_booths (s : State) (i : SeatId) : (s.sendSpeaker i).booths = s.booths := by simp [sendSpeaker]
@[simp] theorem sendSpeaker_channels (s : State) (i : SeatId) : (s.sendSpeaker i).channels = s.channels := by simp [sendSpeaker]
@[simp] theorem sendSpeaker_waitQueue (s : State) (i : SeatId) : (s.sendSpeaker i).waitQueue = s.waitQueue := by simp [sendSpeaker]
@[simp] theorem sendSpeaker_clocked (s : State) (i : SeatId) : (s.sendSpeaker i).clocked = s.clocked := by simp [sendSpeaker]
@[simp] theorem sendSpeaker_gains (s : State) (i : SeatId) : (s.sendSpeaker i).gains = s.gains := by simp [sendSpeaker]
@[simp] theorem sendSpeaker_floorBus (s : State) (i : SeatId) : (s.sendSpeaker i).floorBus = s.floorBus := by simp [sendSpeaker]
@[simp] theorem sendSpeaker_clips (s : State) (i : SeatId) : (s.sendSpeaker i).clips = s.clips := by simp [sendSpeaker]
@[simp] theorem sendSpeaker_frameOut (s : State) (i : SeatId) : (s.sendSpeaker i).frameOut = s.frameOut := by simp [sendSpeaker]
@[simp] theorem sendSpeaker_ports (s : State) (i : SeatId) : (s.sendSpeaker i).ports = s.ports := by simp [sendSpeaker]
@[simp] theorem sendSpeaker_supervisor (s : State) (i : SeatId) : (s.sendSpeaker i).supervisor = s.supervisor := by simp [sendSpeaker]
@[simp] theorem sendSpeaker_interpPort (s : State) (i : SeatId) : (s.sendSpeaker i).interpPort = s.interpPort := by simp [sendSpeaker]
@[simp] theorem sendSpeaker_homePort (s : State) (i : SeatId) : (s.sendSpeaker i).homePort = s.homePort := by simp [sendSpeaker]
@[simp] theorem sendSpeaker_pending (s : State) (i : SeatId) : (s.sendSpeaker i).pending = s.pending := by simp [sendSpeaker]
@[simp] theorem sendSpeaker_clocks (s : State) (i : SeatId) : (s.sendSpeaker i).clocks = s.clocks := by simp [sendSpeaker]
@[simp] theorem sendSpeaker_wall (s : State) (i : SeatId) (j : WallId) : (s.sendSpeaker i).wall j = s.wall j := by simp [wall]
@[simp] theorem sendSpeaker_line (s : State) (i : SeatId) (j : LineId) : (s.sendSpeaker i).line j = s.line j := by simp [line]
@[simp] theorem sendSpeaker_group (s : State) (i : SeatId) (j : Seg) : (s.sendSpeaker i).group j = s.group j := by simp [group]
@[simp] theorem sendSpeaker_booth (s : State) (i : SeatId) (j : BoothId) : (s.sendSpeaker i).booth j = s.booth j := by simp [booth]
@[simp] theorem sendSpeaker_channel (s : State) (i : SeatId) (j : ChanId) : (s.sendSpeaker i).channel j = s.channel j := by simp [channel]
@[simp] theorem sendSpeaker_port (s : State) (i : SeatId) (j : PortId) : (s.sendSpeaker i).port j = s.port j := by simp [port]
@[simp] theorem sendSpeaker_gain (s : State) (i : SeatId) (j : PointId) : (s.sendSpeaker i).gain j = s.gain j := by simp [gain]
@[simp] theorem reformSpeaker_walls (s : State) (i : SeatId) : (s.reformSpeaker i).walls = s.walls := by unfold reformSpeaker; split <;> simp
@[simp] theorem reformSpeaker_applied (s : State) (i : SeatId) : (s.reformSpeaker i).applied = s.applied := by unfold reformSpeaker; split <;> simp
@[simp] theorem reformSpeaker_proposed (s : State) (i : SeatId) : (s.reformSpeaker i).proposed = s.proposed := by unfold reformSpeaker; split <;> simp
@[simp] theorem reformSpeaker_regroup (s : State) (i : SeatId) : (s.reformSpeaker i).regroup = s.regroup := by unfold reformSpeaker; split <;> simp
@[simp] theorem reformSpeaker_profiles (s : State) (i : SeatId) : (s.reformSpeaker i).profiles = s.profiles := by unfold reformSpeaker; split <;> simp
@[simp] theorem reformSpeaker_select (s : State) (i : SeatId) : (s.reformSpeaker i).select = s.select := by unfold reformSpeaker; split <;> simp
@[simp] theorem reformSpeaker_lines (s : State) (i : SeatId) : (s.reformSpeaker i).lines = s.lines := by unfold reformSpeaker; split <;> simp
@[simp] theorem reformSpeaker_groups (s : State) (i : SeatId) : (s.reformSpeaker i).groups = s.groups := by unfold reformSpeaker; split <;> simp
@[simp] theorem reformSpeaker_stamp (s : State) (i : SeatId) : (s.reformSpeaker i).stamp = s.stamp := by unfold reformSpeaker; split <;> simp
@[simp] theorem reformSpeaker_booths (s : State) (i : SeatId) : (s.reformSpeaker i).booths = s.booths := by unfold reformSpeaker; split <;> simp
@[simp] theorem reformSpeaker_channels (s : State) (i : SeatId) : (s.reformSpeaker i).channels = s.channels := by unfold reformSpeaker; split <;> simp
@[simp] theorem reformSpeaker_waitQueue (s : State) (i : SeatId) : (s.reformSpeaker i).waitQueue = s.waitQueue := by unfold reformSpeaker; split <;> simp
@[simp] theorem reformSpeaker_clocked (s : State) (i : SeatId) : (s.reformSpeaker i).clocked = s.clocked := by unfold reformSpeaker; split <;> simp
@[simp] theorem reformSpeaker_gains (s : State) (i : SeatId) : (s.reformSpeaker i).gains = s.gains := by unfold reformSpeaker; split <;> simp
@[simp] theorem reformSpeaker_floorBus (s : State) (i : SeatId) : (s.reformSpeaker i).floorBus = s.floorBus := by unfold reformSpeaker; split <;> simp
@[simp] theorem reformSpeaker_clips (s : State) (i : SeatId) : (s.reformSpeaker i).clips = s.clips := by unfold reformSpeaker; split <;> simp
@[simp] theorem reformSpeaker_frameOut (s : State) (i : SeatId) : (s.reformSpeaker i).frameOut = s.frameOut := by unfold reformSpeaker; split <;> simp
@[simp] theorem reformSpeaker_ports (s : State) (i : SeatId) : (s.reformSpeaker i).ports = s.ports := by unfold reformSpeaker; split <;> simp
@[simp] theorem reformSpeaker_supervisor (s : State) (i : SeatId) : (s.reformSpeaker i).supervisor = s.supervisor := by unfold reformSpeaker; split <;> simp
@[simp] theorem reformSpeaker_interpPort (s : State) (i : SeatId) : (s.reformSpeaker i).interpPort = s.interpPort := by unfold reformSpeaker; split <;> simp
@[simp] theorem reformSpeaker_homePort (s : State) (i : SeatId) : (s.reformSpeaker i).homePort = s.homePort := by unfold reformSpeaker; split <;> simp
@[simp] theorem reformSpeaker_pending (s : State) (i : SeatId) : (s.reformSpeaker i).pending = s.pending := by unfold reformSpeaker; split <;> simp
@[simp] theorem reformSpeaker_clocks (s : State) (i : SeatId) : (s.reformSpeaker i).clocks = s.clocks := by unfold reformSpeaker; split <;> simp
@[simp] theorem reformSpeaker_wall (s : State) (i : SeatId) (j : WallId) : (s.reformSpeaker i).wall j = s.wall j := by simp [wall]
@[simp] theorem reformSpeaker_line (s : State) (i : SeatId) (j : LineId) : (s.reformSpeaker i).line j = s.line j := by simp [line]
@[simp] theorem reformSpeaker_group (s : State) (i : SeatId) (j : Seg) : (s.reformSpeaker i).group j = s.group j := by simp [group]
@[simp] theorem reformSpeaker_booth (s : State) (i : SeatId) (j : BoothId) : (s.reformSpeaker i).booth j = s.booth j := by simp [booth]
@[simp] theorem reformSpeaker_channel (s : State) (i : SeatId) (j : ChanId) : (s.reformSpeaker i).channel j = s.channel j := by simp [channel]
@[simp] theorem reformSpeaker_port (s : State) (i : SeatId) (j : PortId) : (s.reformSpeaker i).port j = s.port j := by simp [port]
@[simp] theorem reformSpeaker_gain (s : State) (i : SeatId) (j : PointId) : (s.reformSpeaker i).gain j = s.gain j := by simp [gain]
@[simp] theorem takeStamp_walls (s : State) : (s.takeStamp).walls = s.walls := by unfold takeStamp; dsimp only; split <;> rfl
@[simp] theorem takeStamp_applied (s : State) : (s.takeStamp).applied = s.applied := by unfold takeStamp; dsimp only; split <;> rfl
@[simp] theorem takeStamp_proposed (s : State) : (s.takeStamp).proposed = s.proposed := by unfold takeStamp; dsimp only; split <;> rfl
@[simp] theorem takeStamp_regroup (s : State) : (s.takeStamp).regroup = s.regroup := by unfold takeStamp; dsimp only; split <;> rfl
@[simp] theorem takeStamp_profiles (s : State) : (s.takeStamp).profiles = s.profiles := by unfold takeStamp; dsimp only; split <;> rfl
@[simp] theorem takeStamp_select (s : State) : (s.takeStamp).select = s.select := by unfold takeStamp; dsimp only; split <;> rfl
@[simp] theorem takeStamp_lines (s : State) : (s.takeStamp).lines = s.lines := by unfold takeStamp; dsimp only; split <;> rfl
@[simp] theorem takeStamp_seats (s : State) : (s.takeStamp).seats = s.seats := by unfold takeStamp; dsimp only; split <;> rfl
@[simp] theorem takeStamp_downlink (s : State) : (s.takeStamp).downlink = s.downlink := by unfold takeStamp; dsimp only; split <;> rfl
@[simp] theorem takeStamp_groups (s : State) : (s.takeStamp).groups = s.groups := by unfold takeStamp; dsimp only; split <;> rfl
@[simp] theorem takeStamp_booths (s : State) : (s.takeStamp).booths = s.booths := by unfold takeStamp; dsimp only; split <;> rfl
@[simp] theorem takeStamp_channels (s : State) : (s.takeStamp).channels = s.channels := by unfold takeStamp; dsimp only; split <;> rfl
@[simp] theorem takeStamp_waitQueue (s : State) : (s.takeStamp).waitQueue = s.waitQueue := by unfold takeStamp; dsimp only; split <;> rfl
@[simp] theorem takeStamp_clocked (s : State) : (s.takeStamp).clocked = s.clocked := by unfold takeStamp; dsimp only; split <;> rfl
@[simp] theorem takeStamp_gains (s : State) : (s.takeStamp).gains = s.gains := by unfold takeStamp; dsimp only; split <;> rfl
@[simp] theorem takeStamp_floorBus (s : State) : (s.takeStamp).floorBus = s.floorBus := by unfold takeStamp; dsimp only; split <;> rfl
@[simp] theorem takeStamp_clips (s : State) : (s.takeStamp).clips = s.clips := by unfold takeStamp; dsimp only; split <;> rfl
@[simp] theorem takeStamp_frameOut (s : State) : (s.takeStamp).frameOut = s.frameOut := by unfold takeStamp; dsimp only; split <;> rfl
@[simp] theorem takeStamp_supervisor (s : State) : (s.takeStamp).supervisor = s.supervisor := by unfold takeStamp; dsimp only; split <;> rfl
@[simp] theorem takeStamp_interpPort (s : State) : (s.takeStamp).interpPort = s.interpPort := by unfold takeStamp; dsimp only; split <;> rfl
@[simp] theorem takeStamp_homePort (s : State) : (s.takeStamp).homePort = s.homePort := by unfold takeStamp; dsimp only; split <;> rfl
@[simp] theorem takeStamp_pending (s : State) : (s.takeStamp).pending = s.pending := by unfold takeStamp; dsimp only; split <;> rfl
@[simp] theorem takeStamp_clocks (s : State) : (s.takeStamp).clocks = s.clocks := by unfold takeStamp; dsimp only; split <;> rfl
@[simp] theorem takeStamp_wall (s : State) (j : WallId) : (s.takeStamp).wall j = s.wall j := by simp [wall]
@[simp] theorem takeStamp_line (s : State) (j : LineId) : (s.takeStamp).line j = s.line j := by simp [line]
@[simp] theorem takeStamp_seat (s : State) (j : SeatId) : (s.takeStamp).seat j = s.seat j := by simp [seat]
@[simp] theorem takeStamp_group (s : State) (j : Seg) : (s.takeStamp).group j = s.group j := by simp [group]
@[simp] theorem takeStamp_booth (s : State) (j : BoothId) : (s.takeStamp).booth j = s.booth j := by simp [booth]
@[simp] theorem takeStamp_channel (s : State) (j : ChanId) : (s.takeStamp).channel j = s.channel j := by simp [channel]
@[simp] theorem takeStamp_gain (s : State) (j : PointId) : (s.takeStamp).gain j = s.gain j := by simp [gain]
@[simp] theorem restartStamps_walls (s : State) : (s.restartStamps).walls = s.walls := by unfold restartStamps; split <;> rfl
@[simp] theorem restartStamps_applied (s : State) : (s.restartStamps).applied = s.applied := by unfold restartStamps; split <;> rfl
@[simp] theorem restartStamps_proposed (s : State) : (s.restartStamps).proposed = s.proposed := by unfold restartStamps; split <;> rfl
@[simp] theorem restartStamps_regroup (s : State) : (s.restartStamps).regroup = s.regroup := by unfold restartStamps; split <;> rfl
@[simp] theorem restartStamps_profiles (s : State) : (s.restartStamps).profiles = s.profiles := by unfold restartStamps; split <;> rfl
@[simp] theorem restartStamps_select (s : State) : (s.restartStamps).select = s.select := by unfold restartStamps; split <;> rfl
@[simp] theorem restartStamps_lines (s : State) : (s.restartStamps).lines = s.lines := by unfold restartStamps; split <;> rfl
@[simp] theorem restartStamps_seats (s : State) : (s.restartStamps).seats = s.seats := by unfold restartStamps; split <;> rfl
@[simp] theorem restartStamps_downlink (s : State) : (s.restartStamps).downlink = s.downlink := by unfold restartStamps; split <;> rfl
@[simp] theorem restartStamps_groups (s : State) : (s.restartStamps).groups = s.groups := by unfold restartStamps; split <;> rfl
@[simp] theorem restartStamps_booths (s : State) : (s.restartStamps).booths = s.booths := by unfold restartStamps; split <;> rfl
@[simp] theorem restartStamps_channels (s : State) : (s.restartStamps).channels = s.channels := by unfold restartStamps; split <;> rfl
@[simp] theorem restartStamps_waitQueue (s : State) : (s.restartStamps).waitQueue = s.waitQueue := by unfold restartStamps; split <;> rfl
@[simp] theorem restartStamps_clocked (s : State) : (s.restartStamps).clocked = s.clocked := by unfold restartStamps; split <;> rfl
@[simp] theorem restartStamps_gains (s : State) : (s.restartStamps).gains = s.gains := by unfold restartStamps; split <;> rfl
@[simp] theorem restartStamps_floorBus (s : State) : (s.restartStamps).floorBus = s.floorBus := by unfold restartStamps; split <;> rfl
@[simp] theorem restartStamps_clips (s : State) : (s.restartStamps).clips = s.clips := by unfold restartStamps; split <;> rfl
@[simp] theorem restartStamps_frameOut (s : State) : (s.restartStamps).frameOut = s.frameOut := by unfold restartStamps; split <;> rfl
@[simp] theorem restartStamps_supervisor (s : State) : (s.restartStamps).supervisor = s.supervisor := by unfold restartStamps; split <;> rfl
@[simp] theorem restartStamps_interpPort (s : State) : (s.restartStamps).interpPort = s.interpPort := by unfold restartStamps; split <;> rfl
@[simp] theorem restartStamps_homePort (s : State) : (s.restartStamps).homePort = s.homePort := by unfold restartStamps; split <;> rfl
@[simp] theorem restartStamps_pending (s : State) : (s.restartStamps).pending = s.pending := by unfold restartStamps; split <;> rfl
@[simp] theorem restartStamps_clocks (s : State) : (s.restartStamps).clocks = s.clocks := by unfold restartStamps; split <;> rfl
@[simp] theorem restartStamps_wall (s : State) (j : WallId) : (s.restartStamps).wall j = s.wall j := by simp [wall]
@[simp] theorem restartStamps_line (s : State) (j : LineId) : (s.restartStamps).line j = s.line j := by simp [line]
@[simp] theorem restartStamps_seat (s : State) (j : SeatId) : (s.restartStamps).seat j = s.seat j := by simp [seat]
@[simp] theorem restartStamps_group (s : State) (j : Seg) : (s.restartStamps).group j = s.group j := by simp [group]
@[simp] theorem restartStamps_booth (s : State) (j : BoothId) : (s.restartStamps).booth j = s.booth j := by simp [booth]
@[simp] theorem restartStamps_channel (s : State) (j : ChanId) : (s.restartStamps).channel j = s.channel j := by simp [channel]
@[simp] theorem restartStamps_gain (s : State) (j : PointId) : (s.restartStamps).gain j = s.gain j := by simp [gain]
@[simp] theorem finish_walls (s : State) : (s.finish).walls = s.walls := by simp [finish]
@[simp] theorem finish_applied (s : State) : (s.finish).applied = s.applied := by simp [finish]
@[simp] theorem finish_proposed (s : State) : (s.finish).proposed = s.proposed := by simp [finish]
@[simp] theorem finish_regroup (s : State) : (s.finish).regroup = s.regroup := by simp [finish]
@[simp] theorem finish_profiles (s : State) : (s.finish).profiles = s.profiles := by simp [finish]
@[simp] theorem finish_select (s : State) : (s.finish).select = s.select := by simp [finish]
@[simp] theorem finish_lines (s : State) : (s.finish).lines = s.lines := by simp [finish]
@[simp] theorem finish_seats (s : State) : (s.finish).seats = s.seats := by simp [finish]
@[simp] theorem finish_downlink (s : State) : (s.finish).downlink = s.downlink := by simp [finish]
@[simp] theorem finish_groups (s : State) : (s.finish).groups = s.groups := by simp [finish]
@[simp] theorem finish_booths (s : State) : (s.finish).booths = s.booths := by simp [finish]
@[simp] theorem finish_channels (s : State) : (s.finish).channels = s.channels := by simp [finish]
@[simp] theorem finish_waitQueue (s : State) : (s.finish).waitQueue = s.waitQueue := by simp [finish]
@[simp] theorem finish_clocked (s : State) : (s.finish).clocked = s.clocked := by simp [finish]
@[simp] theorem finish_floorBus (s : State) : (s.finish).floorBus = s.floorBus := by simp [finish]
@[simp] theorem finish_clips (s : State) : (s.finish).clips = s.clips := by simp [finish]
@[simp] theorem finish_frameOut (s : State) : (s.finish).frameOut = s.frameOut := by simp [finish]
@[simp] theorem finish_supervisor (s : State) : (s.finish).supervisor = s.supervisor := by simp [finish]
@[simp] theorem finish_interpPort (s : State) : (s.finish).interpPort = s.interpPort := by simp [finish]
@[simp] theorem finish_homePort (s : State) : (s.finish).homePort = s.homePort := by simp [finish]
@[simp] theorem finish_pending (s : State) : (s.finish).pending = s.pending := by simp [finish]
@[simp] theorem finish_clocks (s : State) : (s.finish).clocks = s.clocks := by simp [finish]
@[simp] theorem finish_wall (s : State) (j : WallId) : (s.finish).wall j = s.wall j := by simp [wall]
@[simp] theorem finish_line (s : State) (j : LineId) : (s.finish).line j = s.line j := by simp [line]
@[simp] theorem finish_seat (s : State) (j : SeatId) : (s.finish).seat j = s.seat j := by simp [seat]
@[simp] theorem finish_group (s : State) (j : Seg) : (s.finish).group j = s.group j := by simp [group]
@[simp] theorem finish_booth (s : State) (j : BoothId) : (s.finish).booth j = s.booth j := by simp [booth]
@[simp] theorem finish_channel (s : State) (j : ChanId) : (s.finish).channel j = s.channel j := by simp [channel]

/-! ## Commands -/

theorem returnToPresence_present (s : State) (p : PortId) (h : (s.port p).present = true) : s.returnToPresence p = s := by
  simp [returnToPresence, h]

/-- A command on a port that is ready is judged by its own rule at once. -/
theorem take_ready (s : State) (p : PortId) (rule : State → Rule) (h : s.Ready p) : s.take p rule = s.answer p (rule s) := by
  simp [take, h.1, returnToPresence_present s p h.2]

theorem notFenced_ok (s : State) (p : PortId) (h : (s.port p).fenced = false) : s.notFenced p = .ok () := by
  simp [notFenced, refuseIf, h]

theorem isSupervisor_ok (s : State) (p : PortId) (h : s.supervisor = p) : s.isSupervisor p = .ok () := by
  simp [isSupervisor, refuseIf, h]

theorem hasInterp_ok (s : State) (p : PortId) (h : s.interpAuth = p) : s.hasInterp p = .ok () := by
  simp [hasInterp, refuseIf, h]

theorem hasChair_ok (s : State) (p : PortId) (g : Seg) (h : s.chairAuth g = p) : s.hasChair p g = .ok () := by
  simp [hasChair, refuseIf, h]

theorem namedGroup_ok (s : State) (g : Seg) (h : s.applied.isAnchor g = true) : s.namedGroup g.val = .ok g := by
  simp [namedGroup, need, item?, refuseIf, h, bind, Except.bind, pure, Except.pure]

/-! ## Derived values that an update leaves -/

theorem params_congr {s t : State} (ha : t.applied = s.applied) (hp : t.profiles = s.profiles) (hs : t.select = s.select)
    (g : Seg) : t.params g = s.params g := by
  simp [params, selected, profile, ha, hp, hs]

theorem groupOf_congr {s t : State} {i : SeatId} (ha : t.applied = s.applied)
    (hs : (t.seat i).segment = (s.seat i).segment) : t.groupOf i = s.groupOf i := by
  simp [groupOf, ha, hs]

theorem chairAuth_congr {s t : State} (ha : t.applied = s.applied) (hh : t.homePort = s.homePort)
    (hs : t.supervisor = s.supervisor) (hq : ∀ p, t.qualifies p = s.qualifies p) (g : Seg) :
    t.chairAuth g = s.chairAuth g := by
  simp [chairAuth, ha, hh, hs, hq]

theorem interpAuth_congr {s t : State} (hi : t.interpPort = s.interpPort) (hs : t.supervisor = s.supervisor)
    (hq : ∀ p, t.qualifies p = s.qualifies p) : t.interpAuth = s.interpAuth := by
  simp [interpAuth, hi, hs, hq]

@[simp] theorem postTo_qualifies (s : State) (who : PortId → Bool) (n : Notice) (p : PortId) :
    (s.postTo who n).qualifies p = s.qualifies p := by
  unfold qualifies; rw [postTo_port]; split <;> simp

@[simp] theorem flagChange_qualifies (s : State) (g : Seg) (p : PortId) : (s.flagChange g).qualifies p = s.qualifies p := by
  simp [qualifies]

/-! ## Authority -/

theorem announceAuthority_same (s : State) : announceAuthority s.chairAuth s.interpAuth s = s := by
  simp [announceAuthority]

end State

/-! ## Parameter bytes -/

@[simp] theorem item?_val {n : Nat} (k : Fin n) : item? n k.val = some k := by simp [item?]

theorem toNat_num {n : Nat} (k : Fin n) (h : n ≤ 256 := by decide) : (num k).toNat = k.val := by
  simp [num]; omega

end Sys2Proof.Machine
end

