-- ==== Sys2Proof/Laws/Floor.lean ====
section
/-! SUPPORT. What the operations of the Floor Controller do: the frame of each, said once, and the exact effect of a grant, a close, a
withdrawal, a return. -/

theorem Vector.mapEntries_alter {α β : Type} {n : Nat} (v : Vector α n) (i : Fin n) (f : α → α) (g : α → β)
    (h : ∀ x, g (f x) = g x) : (v.alter i f).mapEntries (fun _ x => g x) = v.mapEntries fun _ x => g x :=
  Vector.entry_ext fun k => by by_cases hk : k = i <;> simp [hk, h]

theorem Vector.mapEntries_mapEntries {α β γ : Type} {n : Nat} (v : Vector α n) (f : Fin n → α → β) (g : Fin n → β → γ) :
    (v.mapEntries f).mapEntries g = v.mapEntries fun i x => g i (f i x) :=
  Vector.entry_ext fun k => by simp

theorem List.foldl_keeps {α β γ : Type} (F : β → γ) (f : β → α → β) (h : ∀ b a, F (f b a) = F b) (xs : List α) (b : β) :
    F (xs.foldl f b) = F b := by
  induction xs generalizing b <;> simp_all

namespace Sys2Proof.Machine

@[simp] theorem Port.offer_kept (n : Notice) (r : Port) : (r.offer n).kept = r.kept := by
  unfold Port.offer Port.kept; (repeat' split) <;> rfl

namespace State

/-! ## Frames of the parts -/

theorem floorFrame_setSeat (s : State) (i : SeatId) (f : Seat → Seat) (h : ∀ q, (f q).frame = q.frame) :
    (s.setSeat i f).floorFrame = s.floorFrame := by
  simp only [floorFrame, setSeat, Vector.mapEntries_alter s.seats i f Seat.frame h]

theorem floorFrame_setLine (s : State) (l : LineId) (f : Line → Line) (h : ∀ r, (f r).frame = r.frame) :
    (s.setLine l f).floorFrame = s.floorFrame := by
  simp only [floorFrame, setLine, Vector.mapEntries_alter s.lines l f Line.frame h]

theorem floorFrame_setGroup (s : State) (g : Seg) (f : Group → Group) (h : ∀ r, (f r).frame = r.frame) :
    (s.setGroup g f).floorFrame = s.floorFrame := by
  simp only [floorFrame, setGroup, Vector.mapEntries_alter s.groups g f Group.frame h]

@[simp] theorem floorFrame_postTo (s : State) (who : PortId → Bool) (n : Notice) : (s.postTo who n).floorFrame = s.floorFrame := by
  have h : ∀ (p : PortId) (r : Port), (if who p then r.offer n else r).kept = r.kept := fun p r => by split <;> simp
  simp only [floorFrame, postTo, Vector.mapEntries_mapEntries, h]

@[simp] theorem floorFrame_post (s : State) (k : NoticeKind) (g : Option Seg) (x : Subject) (v : Option Nat) :
    (s.post k g x v).floorFrame = s.floorFrame := floorFrame_postTo ..

@[simp] theorem floorFrame_send (s : State) (i : SeatId) (x : SeatOrder) : (s.send i x).floorFrame = s.floorFrame := by
  unfold send; split <;> rfl

@[simp] theorem floorFrame_setLight (s : State) (i : SeatId) (x : Light) : (s.setLight i x).floorFrame = s.floorFrame := by
  rw [setLight, floorFrame_send, floorFrame_setSeat]
  all_goals exact fun _ => rfl

@[simp] theorem floorFrame_sendSpeaker (s : State) (i : SeatId) : (s.sendSpeaker i).floorFrame = s.floorFrame := by
  rw [sendSpeaker, floorFrame_send, floorFrame_setSeat]
  all_goals exact fun _ => rfl

@[simp] theorem floorFrame_reformSpeaker (s : State) (i : SeatId) : (s.reformSpeaker i).floorFrame = s.floorFrame := by
  unfold reformSpeaker; split <;> simp

@[simp] theorem floorFrame_takeStamp (s : State) : s.takeStamp.floorFrame = s.floorFrame := by
  unfold takeStamp; dsimp only; split
  · rw [floorFrame_post]; rfl
  · rfl

@[simp] theorem floorFrame_restartStamps (s : State) : s.restartStamps.floorFrame = s.floorFrame := by
  unfold restartStamps; split
  · rw [floorFrame_post]; rfl
  · rfl

@[simp] theorem floorFrame_freeSeatSlot (s : State) (i : SeatId) : (s.freeSeatSlot i).floorFrame = s.floorFrame := by
  unfold freeSeatSlot; split
  · rfl
  · rw [floorFrame_setSeat, floorFrame_setLine]; all_goals exact fun _ => rfl

/-! ## Frames of the floor operations -/

@[simp] theorem floorFrame_grant (s : State) (g : Seg) (i : SeatId) (k : SlotNo) : (s.grant g i k).floorFrame = s.floorFrame := by
  unfold grant; dsimp only; rw [floorFrame_post]; split
  · rw [floorFrame_setSeat, floorFrame_sendSpeaker, floorFrame_setLight, floorFrame_send, floorFrame_setSeat,
      floorFrame_setLine, floorFrame_setSeat, floorFrame_setGroup, floorFrame_takeStamp]
    all_goals exact fun _ => rfl
  · rw [floorFrame_sendSpeaker, floorFrame_setLight, floorFrame_send, floorFrame_setSeat,
      floorFrame_setLine, floorFrame_setSeat, floorFrame_setGroup, floorFrame_takeStamp]
    all_goals exact fun _ => rfl

@[simp] theorem floorFrame_offerSlot (s : State) (l : LineId) (k : SlotNo) : (s.offerSlot l k).floorFrame = s.floorFrame := by
  unfold offerSlot; (repeat' split) <;> simp

@[simp] theorem floorFrame_offerFreed (s : State) (i : SeatId) (k : Option SlotNo) :
    (s.offerFreed i k).floorFrame = s.floorFrame := by
  unfold offerFreed; split <;> simp

@[simp] theorem floorFrame_promoteSteps (g : Seg) (n : Nat) (s : State) : (promoteSteps g n s).floorFrame = s.floorFrame := by
  induction n generalizing s with
  | zero => rfl
  | succ n ih => unfold promoteSteps; (repeat' split) <;> simp [ih]

@[simp] theorem floorFrame_promote (s : State) (g : Seg) : (s.promote g).floorFrame = s.floorFrame := by simp [promote]

@[simp] theorem floorFrame_closeCore (s : State) (g : Seg) (i : SeatId) (c : CloseCause) :
    (s.closeCore g i c).floorFrame = s.floorFrame := by
  unfold closeCore; dsimp only
  rw [floorFrame_post, floorFrame_setSeat, floorFrame_sendSpeaker, floorFrame_setLight, floorFrame_send, floorFrame_freeSeatSlot,
    floorFrame_setSeat, floorFrame_setGroup]
  all_goals exact fun _ => rfl

@[simp] theorem floorFrame_close (s : State) (g : Seg) (i : SeatId) (c : CloseCause) :
    (s.close g i c).floorFrame = s.floorFrame := by
  unfold close; dsimp only; split <;> simp

@[simp] theorem floorFrame_withdrawQuiet (s : State) (g : Seg) (i : SeatId) : (s.withdrawQuiet g i).floorFrame = s.floorFrame := by
  rw [withdrawQuiet, floorFrame_setLight, floorFrame_setSeat, floorFrame_setGroup]
  all_goals exact fun _ => rfl

@[simp] theorem floorFrame_withdraw (s : State) (g : Seg) (i : SeatId) (c : WithdrawCause) :
    (s.withdraw g i c).floorFrame = s.floorFrame := by simp [withdraw]

@[simp] theorem floorFrame_withdrawAll (s : State) (g : Seg) : (s.withdrawAll g).floorFrame = s.floorFrame :=
  List.foldl_keeps floorFrame _ (by simp) _ _

@[simp] theorem floorFrame_returnSeat (s : State) (g : Seg) (i : SeatId) : (s.returnSeat g i).floorFrame = s.floorFrame := by
  unfold returnSeat; dsimp only
  rw [floorFrame_post, floorFrame_sendSpeaker, floorFrame_setLight, floorFrame_send, floorFrame_setGroup, floorFrame_setSeat,
    floorFrame_freeSeatSlot, floorFrame_setGroup]
  all_goals exact fun _ => rfl

@[simp] theorem floorFrame_drop (s : State) (g : Seg) (i : SeatId) : (s.drop g i).floorFrame = s.floorFrame := by simp [drop]

@[simp] theorem floorFrame_capList (s : State) (g : Seg) : (s.capList g).floorFrame = s.floorFrame :=
  List.foldl_keeps floorFrame _ (by simp) _ _

@[simp] theorem floorFrame_returnExcess (s : State) (g : Seg) : (s.returnExcess g).floorFrame = s.floorFrame := by
  unfold returnExcess; rw [floorFrame_capList]; exact List.foldl_keeps floorFrame _ (by simp) _ _

@[simp] theorem floorFrame_cancelFloor (s : State) (g : Seg) : (s.cancelFloor g).floorFrame = s.floorFrame := by
  unfold cancelFloor; dsimp only; rw [floorFrame_post, List.foldl_keeps floorFrame _ (by simp), floorFrame_withdrawAll]

@[simp] theorem floorFrame_refusePress (s : State) (i : SeatId) : (s.refusePress i).floorFrame = s.floorFrame := by
  simp [refusePress]

@[simp] theorem floorFrame_refuseFull (s : State) (g : Seg) (i : SeatId) : (s.refuseFull g i).floorFrame = s.floorFrame := by
  simp [refuseFull]

@[simp] theorem floorFrame_takeRequest (s : State) (i : SeatId) : (s.takeRequest i).floorFrame = s.floorFrame := by
  rw [takeRequest, floorFrame_setSeat, floorFrame_takeStamp]
  all_goals exact fun _ => rfl

@[simp] theorem floorFrame_joinTail (s : State) (g : Seg) (i : SeatId) : (s.joinTail g i).floorFrame = s.floorFrame := by
  unfold joinTail; dsimp only
  rw [floorFrame_post, floorFrame_setLight, floorFrame_setSeat, floorFrame_setGroup]
  all_goals exact fun _ => rfl

@[simp] theorem floorFrame_joinRequest (s : State) (g : Seg) (i : SeatId) : (s.joinRequest g i).floorFrame = s.floorFrame := by
  unfold joinRequest; split <;> simp

@[simp] theorem floorFrame_overrideGrant (s : State) (g : Seg) (i v : SeatId) :
    (s.overrideGrant g i v).floorFrame = s.floorFrame := by
  unfold overrideGrant; dsimp only; (repeat' split) <;> try simp
  rw [floorFrame_setSeat, floorFrame_offerFreed, floorFrame_closeCore, floorFrame_takeRequest]; exact fun _ => rfl

@[simp] theorem floorFrame_request (s : State) (g : Seg) (i : SeatId) : (s.request g i).floorFrame = s.floorFrame := by
  unfold request; (repeat' split) <;> simp

@[simp] theorem floorFrame_preempt (s : State) (g : Seg) (i : SeatId) (gv : Seg) (v : SeatId) (k : SlotNo) :
    (s.preempt g i gv v k).floorFrame = s.floorFrame := by simp [preempt]

@[simp] theorem floorFrame_chairPress (s : State) (g : Seg) (i : SeatId) : (s.chairPress g i).floorFrame = s.floorFrame := by
  unfold chairPress; (repeat' split) <;> simp

@[simp] theorem floorFrame_talkPress (s : State) (i : SeatId) : (s.talkPress i).floorFrame = s.floorFrame := by
  unfold talkPress; (repeat' split) <;> simp

@[simp] theorem floorFrame_loseFloor (s : State) (i : SeatId) : (s.loseFloor i).floorFrame = s.floorFrame := by
  unfold loseFloor; (repeat' split) <;> simp

@[simp] theorem floorFrame_closeSeats (s : State) (g : Seg) (is : List SeatId) (c : CloseCause) :
    (is.foldl (fun t i => t.close g i c) s).floorFrame = s.floorFrame := List.foldl_keeps floorFrame _ (by simp) _ _

@[simp] theorem floorFrame_setPhase (s : State) (i : SeatId) (t : Timer) (p : Phase) :
    (s.setPhase i t p).floorFrame = s.floorFrame :=
  floorFrame_setSeat s i (fun q => { q with timer := some { t with phase := p } }) fun _ => rfl

@[simp] theorem floorFrame_endLimit (s : State) (g : Seg) (i : SeatId) (t : Timer) :
    (s.endLimit g i t).floorFrame = s.floorFrame := by
  unfold endLimit; dsimp only; (repeat' split) <;> simp

@[simp] theorem floorFrame_judgeTimer (s : State) (g : Seg) (i : SeatId) (t : Timer) :
    (s.judgeTimer g i t).floorFrame = s.floorFrame := by
  unfold judgeTimer; dsimp only; (repeat' split) <;> simp

@[simp] theorem floorFrame_visitTimer (s : State) (g : Seg) (i : SeatId) : (s.visitTimer g i).floorFrame = s.floorFrame := by
  unfold visitTimer; split
  · rfl
  · dsimp only; rw [floorFrame_judgeTimer, floorFrame_setSeat]; exact fun _ => rfl

/-! ## What equal frames say -/

variable {s t : State}

theorem applied_of_floorFrame (h : t.floorFrame = s.floorFrame) : t.applied = s.applied :=
  id (congrArg State.applied h :)
theorem walls_of_floorFrame (h : t.floorFrame = s.floorFrame) : t.walls = s.walls :=
  id (congrArg State.walls h :)
theorem proposed_of_floorFrame (h : t.floorFrame = s.floorFrame) : t.proposed = s.proposed :=
  id (congrArg State.proposed h :)
theorem regroup_of_floorFrame (h : t.floorFrame = s.floorFrame) : t.regroup = s.regroup :=
  id (congrArg State.regroup h :)
theorem profiles_of_floorFrame (h : t.floorFrame = s.floorFrame) : t.profiles = s.profiles :=
  id (congrArg State.profiles h :)
theorem select_of_floorFrame (h : t.floorFrame = s.floorFrame) : t.select = s.select :=
  id (congrArg State.select h :)
theorem booths_of_floorFrame (h : t.floorFrame = s.floorFrame) : t.booths = s.booths :=
  id (congrArg State.booths h :)
theorem channels_of_floorFrame (h : t.floorFrame = s.floorFrame) : t.channels = s.channels :=
  id (congrArg State.channels h :)
theorem waitQueue_of_floorFrame (h : t.floorFrame = s.floorFrame) : t.waitQueue = s.waitQueue :=
  id (congrArg State.waitQueue h :)
theorem gains_of_floorFrame (h : t.floorFrame = s.floorFrame) : t.gains = s.gains :=
  id (congrArg State.gains h :)
theorem supervisor_of_floorFrame (h : t.floorFrame = s.floorFrame) : t.supervisor = s.supervisor :=
  id (congrArg State.supervisor h :)
theorem homePort_of_floorFrame (h : t.floorFrame = s.floorFrame) : t.homePort = s.homePort :=
  id (congrArg State.homePort h :)

theorem seat_of_floorFrame (h : t.floorFrame = s.floorFrame) (i : SeatId) : (t.seat i).frame = (s.seat i).frame := by
  simpa [floorFrame, seat] using congrArg (fun u : State => u.seats.entry i) h

theorem line_of_floorFrame (h : t.floorFrame = s.floorFrame) (l : LineId) : (t.line l).frame = (s.line l).frame := by
  simpa [floorFrame, line] using congrArg (fun u : State => u.lines.entry l) h

theorem group_of_floorFrame (h : t.floorFrame = s.floorFrame) (g : Seg) : (t.group g).frame = (s.group g).frame := by
  simpa [floorFrame, group] using congrArg (fun u : State => u.groups.entry g) h

theorem port_of_floorFrame (h : t.floorFrame = s.floorFrame) (p : PortId) : (t.port p).kept = (s.port p).kept := by
  simpa [floorFrame, port] using congrArg (fun u : State => u.ports.entry p) h

theorem params_of_floorFrame (h : t.floorFrame = s.floorFrame) (g : Seg) : t.params g = s.params g :=
  params_congr (applied_of_floorFrame h) (profiles_of_floorFrame h) (select_of_floorFrame h) g

theorem session_of_floorFrame (h : t.floorFrame = s.floorFrame) (g : Seg) : (t.group g).session = (s.group g).session :=
  id (congrArg Group.session (group_of_floorFrame h g) :)

theorem groupOf_of_floorFrame (h : t.floorFrame = s.floorFrame) (i : SeatId) : t.groupOf i = s.groupOf i :=
  groupOf_congr (applied_of_floorFrame h) (id (congrArg Seat.segment (seat_of_floorFrame h i) :))

theorem isDelegate_of_floorFrame (h : t.floorFrame = s.floorFrame) (i : SeatId) : t.isDelegate i = s.isDelegate i := by
  simp only [isDelegate]; rw [show (t.seat i).kind = (s.seat i).kind from
    id (congrArg Seat.kind (seat_of_floorFrame h i) :)]

end State

end Sys2Proof.Machine
end

