-- ==== Sys2Proof/Laws/Grant.lean ====
section
/-! SUPPORT. The exact effect of a grant, a close and a withdrawal: seat, group, line, stamp, downlink, notices. -/

namespace Sys2Proof.Machine.State

variable (s : State) (g : Seg) (i : SeatId) (k : SlotNo)

theorem setLight_seat (j : SeatId) (x : Light) :
    (s.setLight i x).seat j = if j = i then { s.seat i with light := x } else s.seat j := by
  simp [setLight, setSeat_seat]

theorem sendSpeaker_seat (j : SeatId) :
    (s.sendSpeaker i).seat j = if j = i then { s.seat i with speaker := s.speakerOf i } else s.seat j := by
  simp [sendSpeaker, setSeat_seat]

theorem reachable_congr {s t : State} (i : SeatId) (h : (t.seat i).link = (s.seat i).link)
    (hl : (t.line (lineOf i)).state = (s.line (lineOf i)).state) : t.reachable i = s.reachable i := by
  simp [reachable, h, hl]

/-! ## The grant (R62) -/

theorem grant_seat_same :
    (s.grant g i k).seat i =
      { s.seat i with
        floor := .opened, grantStamp := some s.stamp, slot := some k, light := .opened, speaker := none
        timer := if s.isDelegate i then some (newTimer (s.params g).speakLimit) else (s.seat i).timer } := by
  unfold grant; dsimp only; rw [post_seat]
  have hp : ∀ t : State, t.applied = s.applied → t.profiles = s.profiles → t.select = s.select → t.params g = s.params g :=
    fun t h₁ h₂ h₃ => params_congr h₁ h₂ h₃ g
  split <;> rename_i h <;>
    simp [isDelegate, sendSpeaker_seat, setLight_seat] at h <;>
    simp [sendSpeaker_seat, setLight_seat, speakerOf, isDelegate, h, hp]

theorem grant_seat_ne {j : SeatId} (h : j ≠ i) : (s.grant g i k).seat j = s.seat j := by
  unfold grant; dsimp only; rw [post_seat]
  split <;> simp [sendSpeaker_seat, setLight_seat, h]

theorem grant_group_same :
    (s.grant g i k).group g =
      { s.group g with waiting := (s.group g).waiting.filter (· != i), openSet := (s.group g).openSet ++ [i] } := by
  unfold grant; dsimp only; rw [post_group]; split <;> simp

theorem grant_group_ne {g' : Seg} (h : g' ≠ g) : (s.grant g i k).group g' = s.group g' := by
  unfold grant; dsimp only; rw [post_group]; split <;> simp [h]

theorem grant_line_same :
    (s.grant g i k).line (lineOf i) = { s.line (lineOf i) with slots := (s.line (lineOf i)).slots.put k (some i) } := by
  unfold grant; dsimp only; rw [post_line]; split <;> simp

theorem grant_line_ne {l : LineId} (h : l ≠ lineOf i) : (s.grant g i k).line l = s.line l := by
  unfold grant; dsimp only; rw [post_line]; split <;> simp [h]

theorem takeStamp_stamp : s.takeStamp.stamp = s.stamp + 1 := by unfold takeStamp; dsimp only; split <;> rfl

theorem grant_stamp : (s.grant g i k).stamp = s.stamp + 1 := by
  unfold grant; dsimp only; rw [post_stamp]; split <;> simp [takeStamp_stamp]

/-! ## The close (R64), steps 1 to 5 -/

theorem closeCore_seat_same (c : CloseCause) :
    (s.closeCore g i c).seat i =
      { s.seat i with
        floor := .idle, requestStamp := none, grantStamp := none, slot := none, light := .off, speaker := s.groupOf i
        timer := none } := by
  simp only [closeCore, post_seat, setSeat_seat_same, sendSpeaker_seat, setLight_seat, send_seat, if_true, speakerOf, groupOf]
  unfold freeSeatSlot
  split <;> rename_i h <;> simp_all

theorem closeCore_seat_ne (c : CloseCause) {j : SeatId} (h : j ≠ i) : (s.closeCore g i c).seat j = s.seat j := by
  simp only [closeCore, post_seat, sendSpeaker_seat, setLight_seat, send_seat, setSeat_seat, h, if_false]
  unfold freeSeatSlot
  split <;> simp [h]

theorem freeSeatSlot_group (g' : Seg) : (s.freeSeatSlot i).group g' = s.group g' := by
  unfold freeSeatSlot; split <;> simp

theorem closeCore_group_same (c : CloseCause) :
    (s.closeCore g i c).group g = { s.group g with openSet := (s.group g).openSet.filter (· != i) } := by
  simp [closeCore, freeSeatSlot_group]

theorem closeCore_group_ne (c : CloseCause) {g' : Seg} (h : g' ≠ g) : (s.closeCore g i c).group g' = s.group g' := by
  simp [closeCore, freeSeatSlot_group, h]

theorem closeCore_stamp (c : CloseCause) : (s.closeCore g i c).stamp = s.stamp := by
  simp only [closeCore, post_stamp, setSeat_stamp, sendSpeaker_stamp, setLight_stamp, send_stamp]
  unfold freeSeatSlot; split <;> rfl

/-! ## The withdrawal (R65) -/

theorem withdrawQuiet_seat (j : SeatId) :
    (s.withdrawQuiet g i).seat j =
      if j = i then { s.seat i with floor := .idle, requestStamp := none, light := .off } else s.seat j := by
  simp only [withdrawQuiet, setLight_seat, setSeat_seat, setGroup_seat]; split <;> simp_all

theorem withdrawQuiet_group_same :
    (s.withdrawQuiet g i).group g = { s.group g with waiting := (s.group g).waiting.filter (· != i) } := by
  simp [withdrawQuiet]

theorem withdrawQuiet_group_ne {g' : Seg} (h : g' ≠ g) : (s.withdrawQuiet g i).group g' = s.group g' := by
  simp [withdrawQuiet, h]

theorem withdrawQuiet_stamp : (s.withdrawQuiet g i).stamp = s.stamp := by simp [withdrawQuiet]

end Sys2Proof.Machine.State
end

