-- ==== Sys2Proof/Tests/Slice0.lean ====
section
/-! SUPPORT. Tests: the WellFormed smoke, frames and messages written out from the spec, worked examples of the spec on one step, and for
each statement with hypotheses a state and operands that meet them. -/

namespace Sys2Proof.Tests

/- One test after the other: a test evaluated by the kernel waits for all that stands before it. -/
set_option Elab.async false

open Sys2Proof.Machine

/-! ## States -/

/-- The reset state with a command frame in progress on port 0, which holds every designation. -/
def ready : State := State.reset.setPort 0 fun r => { r with frame := .receiving }

/-- `ready` with port 0 changed. -/
def port0 (f : Port → Port) : State := ready.setPort 0 f

/-- `ready` with a seat put in segment 0. -/
def seated (i : SeatId) (f : Seat → Seat) (s : State) : State := s.setSeat i fun q => { f q with segment := some 0 }

/-- The session of group 0 is OPEN. -/
def inSession (s : State) : State := s.setGroup 0 fun r => { r with session := .opened }

/-- Seat `i` of group 0 is WAITING with request stamp `n`. -/
def waiting (i : SeatId) (n : Nat) (s : State) : State :=
  (seated i (fun q => { q with floor := .waiting, requestStamp := some n }) s).setGroup 0 fun r =>
    { r with waiting := r.waiting ++ [i] }

/-- Seat `i` of group 0 is OPEN in slot `k` with grant stamp `n`. -/
def onAir (i : SeatId) (k : SlotNo) (n : Nat) (s : State) : State :=
  ((seated i (fun q => { q with floor := .opened, slot := some k, grantStamp := some n }) s).setGroup 0 fun r =>
    { r with openSet := r.openSet ++ [i] }).setLine (lineOf i) fun r => { r with slots := r.slots.put k (some i) }

/-- Every slot of line 0 is held by seats of line 0 that are not OPEN. -/
def fullLine (s : State) : State :=
  s.setLine 0 fun r => { r with slots := Vector.tabulate fun k => some ⟨k.val + 32, by omega⟩ }

/-- The effective parameters of every group that selects DEFAULT. -/
def withDefault (f : Profile → Profile) (s : State) : State := s.setProfile .default (f (s.profile .default))

/-- Line 0 is in a state. -/
def onLine (f : Line → Line) : State := ready.setLine 0 f

/-- Booth 0 is ONLINE. -/
def booth0 (f : Booth → Booth) : State := ready.setBooth 0 fun r => f { r with online := true }

/-- Segments 0 and 1 joined. -/
def joined01 : Topology := Topology.single.join 0 1

/-! ## WellFormed: an ill-formed term for each check -/

/-- R165: no frame carries 31 parameter bytes. -/
theorem test_illFormed_params : (Instr.openSession 0 (List.replicate 31 0)).wellFormed = false := by decide
theorem test_wellFormed_params : (Instr.openSession 0 (List.replicate 30 0)).wellFormed = true := by decide
/-- Section 11.5: 64 is the code of OPEN_SESSION. -/
theorem test_illFormed_unknownCode : (Instr.unknownCommand 0 64 []).wellFormed = false := by decide
theorem test_illFormed_unknownParams : (Instr.unknownCommand 0 0 (List.replicate 31 0)).wellFormed = false := by decide
/-- R165: a length of 30 is not above 30. -/
theorem test_illFormed_length : (Instr.lengthAbove30 0 64 30).wellFormed = false := by decide
/-- Section 11.4: a seat reply has 5 bytes, a booth frame at most 5, a desk event 6. -/
theorem test_illFormed_reply : (Instr.seatReply 0 [1, 1, 0, 0]).wellFormed = false := by decide
theorem test_illFormed_boothFrame : (Instr.boothFrame 0 [0, 0, 0, 0, 0, 0]).wellFormed = false := by decide
theorem test_illFormed_deskEvent : (Instr.deskEventDiscarded 0 [0, 0, 1, 0, 0]).wellFormed = false := by decide

/-! ## Frames written out from sections 11.4 and 11.5 -/

theorem test_frame_setWallEnds : decodeFrame 0 [16, 3, 2, 0, 1] = some (.setWallEnds 0 [2, 0, 1]) := by decide
theorem test_frame_writeProfileField : decodeFrame 1 [34, 3, 2, 0, 30] = some (.writeProfileField 1 [2, 0, 30]) := by decide
theorem test_frame_enumerateLine : decodeFrame 0 [48, 3, 0, 1, 0] = some (.enumerateLine 0 [0, 1, 0]) := by decide
theorem test_frame_grantSeat : decodeFrame 2 [67, 3, 0, 0, 64] = some (.grantSeat 2 [0, 0, 64]) := by decide
theorem test_frame_extendTime : decodeFrame 0 [80, 4, 0, 5, 0, 60] = some (.extendTime 0 [0, 5, 0, 60]) := by decide
theorem test_frame_setDeskRelay : decodeFrame 0 [99, 3, 0, 1, 255] = some (.setDeskRelay 0 [0, 1, 255]) := by decide
theorem test_frame_addLanguage : decodeFrame 0 [112, 2, 0, 7] = some (.addLanguage 0 [0, 7]) := by decide
theorem test_frame_setGroupFader : decodeFrame 0 [144, 2, 0, 255] = some (.setGroupFader 0 [0, 255]) := by decide
theorem test_frame_readStatus : decodeFrame 3 [168, 0] = some (.readStatus 3 []) := by decide
theorem test_frame_readNotices : decodeFrame 3 [177, 1, 3] = some (.readNotices 3 [3]) := by decide
theorem test_frame_unknown : decodeFrame 0 [21, 0] = some (.unknownCommand 0 21 []) := by decide
theorem test_frame_length : decodeFrame 0 [64, 31] = some (.lengthAbove30 0 64 31) := by decide
theorem test_frame_incomplete : decodeFrame 0 [64, 1] = none := by decide

/-! ## Worked examples of the spec -/

/-- R42: the check of the nine characters "123456789" is 10673. -/
theorem test_crc : crc16 [49, 50, 51, 52, 53, 54, 55, 56, 57] = 10673 := by decide +kernel
/-- R155, its table of totals. -/
theorem test_linearGain :
    [(-12 : Int), -6, 0, 4, 25, 96, 180, 181, 191, 192].map linearGain =
      [65536, 46340, 32768, 26008, 7732, 128, 1, 0, 0, 0] := by decide
/-- R156: 4780 takes five frames, four of 1024 and one of 684. -/
theorem test_ramp : ((GainPoint.ramp (GainPoint.ramp (GainPoint.ramp (GainPoint.ramp
    { target := 18390, applied := 23170 }))))).applied = 19074 := by decide
/-- Section 11.3: SEAT_CLOSED is the tenth kind from 16; section 11.4: a notice of desk 1.2 about group 3 with value 258. -/
theorem test_noticeBytes :
    Notice.bytes { kind := .seatClosed, group := some 3, subject := .desk 1 2, value := some 258 } =
      [25, 1, 3, 3, 0, 5, 1, 2] := by decide
/-- R2: both contacts made is FAULT. -/
theorem test_resolve : [resolve true false, resolve false true, resolve false false, resolve true true] =
    [.opened, .closed, .moving, .fault] := by decide
/-- Section 11.4: the result codes. -/
theorem test_resultCodes :
    [ResultCode.ok, .accepted, .latchHeld, .notAuthority, .fenced, .badParam, .noSuch, .inUse, .full, .noSlot, .busy, .relayLoop,
      .wrongState, .unknownCommand].map ResultCode.code = [0, 1, 2, 3, 4, 5, 6, 7, 8, 9, 10, 11, 12, 13] := by decide
/-- R24: speak_limit 9 is stored as 10 and max_open 9 as 8. -/
theorem test_clamps : (Profile.reset.write .speakLimit 9).map (·.speakLimit) = some 10 ∧
    (Profile.reset.write .maxOpen 9).map (·.maxOpen) = some 8 := by decide
/-- R159: the rounding adds 16 384 and shifts toward minus infinity. -/
theorem test_roundOff : [roundOff 16383, roundOff 16384, roundOff (-16384), roundOff (-16385)] = [0, 1, 0, -1] := by decide
/-- R94, R149: an empty slot of an ONLINE booth is counted while CLOCKED, and held while UNCLOCKED. -/
theorem test_missingFrame :
    (({ booth0 id with clocked := true } : State).takeFrame 0 none).booth 0 = { (booth0 id).booth 0 with run := 1, lostFrames := 1 } ∧
      ((booth0 id).takeFrame 0 none).booth 0 = (booth0 id).booth 0 := by decide +kernel
/-- The table spells no command. -/
theorem test_decodeTableWord : decodeTableWord 8 64 = none := by decide

/-! ## Witnesses: states and operands that meet the hypotheses of each statement, clause by clause at boundaries -/

theorem witness_FrameRoundTrip :
    (Instr.openSession 1 (List.replicate 30 255)).wellFormed = true ∧
      encodeFrame (.openSession 1 [7]) = some (1, [64, 1, 7]) := by decide

theorem witness_StepRunsFront :
    State.reset.pending = [] ∧ State.reset.clocks = [] ∧
      ({ ready with clocks := [(0, 64)] } : State).clocks = (0, 64) :: [] := by decide +kernel

/-- R165: the code 168 and the length 0 clocked in give READ_STATUS, the length byte 31 is taken at once. -/
theorem test_bytes_taken :
    decodeFrame 2 [168] = none ∧ decodeFrame 2 [168, 0] = some (.readStatus 2 []) ∧
      decodeFrame 2 [64, 31] = some (.lengthAbove30 2 64 31) ∧ decodeFrame 2 [64, 1] = none := by decide

/-- R165: after the whole response 0 goes out. -/
theorem test_bytes_shiftedOut :
    let last := Port.shiftOut { Port.reset with frame := .responding, response := [5, 0] }.shiftOut
    last.dataOut = some 0 ∧ ({ Port.reset with frame := .responding, response := [5, 0] } : Port).shiftOut.dataOut = some 5 ∧
      last.response = [] ∧ last.shiftOut.dataOut = some 0 := by decide

/-- The boundary frames are a code alone, a length of 0, 30 and 31, and the last parameter missing. -/
theorem witness_Frames :
    let responding := port0 fun r => { r with frame := .responding, response := [0, 0] }
    let asked := fun x : List Byte => port0 fun r => { r with stored := x }
    (responding.port 0).response = 0 :: [0] ∧ (ready.port 0).stored = [] ∧ ready.pending = [] ∧
      ((asked [64]).port 0).stored ++ [(0 : Byte)] = 64 :: 0 :: [] ∧ ((asked [64]).port 0).stored ++ [(31 : Byte)] = 64 :: 31 :: [] ∧
      ((asked [64, 1]).port 0).stored ++ [(7 : Byte)] = 64 :: 1 :: [7] ∧ ((asked [64]).port 0).stored ++ [(30 : Byte)] = 64 :: 30 :: [] ∧
      (Instr.openSession 0 [7]).wellFormed = true ∧ encodeFrame (.openSession 0 [7]) = some (0, [64, 1, 7]) ∧
    (State.reset.port 0).frame = .idle ∧ (ready.port 0).frame = .receiving ∧
      ((port0 fun r => { r with frame := .responding }).port 0).frame = .responding ∧
      (Instr.readPorts 0 []).framePort = some 0 ∧ ready.Ready 0 := by decide +kernel

theorem witness_WrongParameterCount :
    (Instr.openSession 0 []).command = some ⟨0, [], 1, true⟩ ∧ (ready.port 0).frame = .receiving := by decide +kernel

theorem witness_Responses :
    (Instr.openSession 0 []).framePort = some 0 ∧ ready.Ready 0 ∧ ∀ g, (ready.group g).langs.length ≤ 12 := by decide +kernel

/-- A fenced port; a port with no authority; a segment that is no anchor, an anchor, a seat outside its group; a number past each range. -/
theorem witness_CommandsRefused :
    let other : State := { ready with supervisor := 1, interpPort := 1, homePort := Vector.replicate 8 1 }
    let joined : State := { ready with applied := joined01 }
    (Instr.openSession 0 [0]).command = some ⟨0, [0], 1, true⟩ ∧ (port0 fun r => { r with fenced := true }).Ready 0 ∧
      ((port0 fun r => { r with fenced := true }).port 0).fenced = true ∧
      other.Unfenced 0 ∧ other.supervisor ≠ 0 ∧ other.interpAuth ≠ 0 ∧ other.applied.entry 0 = 0 ∧ other.chairAuth 0 ≠ 0 ∧
      joined.Chief 0 ∧ joined.Interp 0 ∧ joined.applied.entry 1 ≠ 1 ∧ (1 : Byte) = num (1 : Seg) ∧ joined.applied.entry 0 = 0 ∧
      joined.chairAuth 0 = 0 ∧ (0 : Byte).toNat * 256 + (255 : Byte).toNat = (255 : SeatId).val ∧ joined.groupOf 255 ≠ some 0 ∧
      256 ≤ (1 : Byte).toNat * 256 + (0 : Byte).toNat ∧
      (∀ n : Nat, n ∈ [2, 3, 4, 5, 8, 9, 10, 12, 32, 64, 76, 168] → n ≤ (BitVec.ofNat 8 n).toNat ∧ BitVec.ofNat 8 n ≠ (255 : Byte)) := by
  decide +kernel

theorem witness_CommandRestoresPresence :
    (Instr.readPorts 0 []).framePort = some 0 ∧ (∀ params, Instr.readPorts 0 [] ≠ .portReset 0 params) ∧
      ((port0 fun r => { r with present := false, queue := [⟨.clockLost, none, .none, none⟩] }).port 0).present = false := by
  refine ⟨rfl, fun _ => by simp, by decide +kernel⟩

theorem witness_Designations :
    ready.Chief 0 ∧ (ready.port 1).present = true ∧ (ready.port 1).fenced = false ∧
      (ready.setPort 1 fun r => { r with present := false }).Chief 0 ∧
      ((ready.setPort 1 fun r => { r with present := false }).port 1).present = false ∧
      ((ready.setPort 1 fun r => { r with fenced := true }).port 1).fenced = true := by decide +kernel

/-- Port 1 is not the supervisor; the timeouts 60 and 61, the port numbers 3 and 4. -/
theorem witness_PresenceTimeout :
    ready.Ready 0 ∧ ready.supervisor = 0 ∧ (ready.port 0).fenced = false ∧ (4 : Byte).toNat > 3 ∧ (3 : Byte).toNat = (3 : PortId).val ∧
      (61 : Byte).toNat > 60 ∧ (60 : Byte).toNat ≤ 60 ∧
      (ready.setPort 1 fun r => { r with frame := .receiving }).Ready 1 ∧
      (port0 fun r => { r with fenced := true }).Ready 0 := by decide +kernel

theorem witness_Fences :
    ready.Chief 0 ∧ (ready.port 1).fenced = false ∧ (ready.setPort 1 fun r => { r with fenced := true }).Chief 0 ∧
      ((ready.setPort 1 fun r => { r with fenced := true }).port 1).fenced = true := by decide +kernel

theorem witness_PresenceExpiry :
    let runs := port0 fun r => { r with timer := some 0 }
    let silent := runs.setPort 0 fun r => { r with subscription := 0 }
    (ready.port 0).timer = none ∧ (runs.port 0).timer ≠ none ∧ (runs.port 0).subscription ≠ 0 ∧ (silent.port 0).timer ≠ none ∧
      (silent.port 0).subscription = 0 := by decide +kernel

/-- Segment 7 is a group by itself: its home port qualifies, or is fenced, and so with the interpretation port. -/
theorem witness_AuthorityNotices :
    let fenced := port0 fun r => { r with fenced := true }
    ready.applied.entry 7 = 7 ∧ (∀ y : Seg, y < 7 → ready.applied.entry y ≠ 7) ∧ ready.homePort.entry 7 = 0 ∧
      (ready.port 0).present = true ∧ (ready.port 0).fenced = false ∧ ready.interpPort = 0 ∧
      (∀ x, (fenced.port (fenced.homePort.entry x)).fenced = true) ∧ (fenced.port fenced.interpPort).fenced = true := by decide +kernel

/-- R179: the monitor cannot make a port with the empty subscription ABSENT. -/
theorem test_presenceExpiry_emptySubscription :
    ((State.expirePresence (port0 fun r => { r with timer := some 0, subscription := 0 }) 0).port 0).present = true ∧
      ((State.expirePresence (port0 fun r => { r with timer := some 0 }) 0).port 0).present = false := by decide +kernel

theorem witness_PortReset : (ready.port 0).frame = .receiving ∧ (ready.port 0).present = true := by decide +kernel

/-- A queue of 31, a queue of 32, and a port that does not subscribe. -/
theorem witness_NoticeOffered :
    let notices := fun n => List.replicate n (⟨.clockLost, none, .none, none⟩ : Notice)
    (ready.port 0).subscription.getLsbD NoticeKind.clockLost.category.bit = true ∧
      ((port0 fun r => { r with subscription := 0 }).port 0).subscription.getLsbD NoticeKind.clockLost.category.bit = false ∧
      ((port0 fun r => { r with queue := notices 31 }).port 0).queue.length < 32 ∧
      32 ≤ ((port0 fun r => { r with queue := notices 32 }).port 0).queue.length := by decide +kernel

theorem witness_NoticeCommands : ready.Ready 0 ∧ (1 : Byte) ≠ 0 := by decide +kernel

theorem witness_PortReads : ready.Ready 0 := by decide +kernel

theorem witness_RecordCursor :
    ready.Ready 0 ∧ (ready.port 0).cursor = none ∧
      ((port0 fun r => { r with cursor := some ⟨.walls, 10⟩ }).port 0).cursor = some ⟨.walls, 10⟩ ∧
      (port0 fun r => { r with cursor := some ⟨.walls, 10⟩ }).Ready 0 := by decide +kernel

theorem witness_WallSensors :
    (ready.wall 0).status ≠ .settling ∧
      ((ready.setWall 0 fun r => { r with status := .settling, resolved := .opened }).wall 0).status = .settling := by decide +kernel

/-- A wall whose change of effective state holds group 0, one that applies, and one that brings the unit back; the groups 0 and 1 are
affected by their union, group 7 is not. -/
theorem witness_Evaluation :
    let wall := fun s : State => s.setWall 0 fun r => { r with ends := some (0, 1), effective := .opened }
    ready.formProposed = ready.applied ∧ ready.regroup = .inStep ∧
      ({ ready with regroup := .held } : State).formProposed = ready.applied ∧
      (wall ready).formProposed ≠ (wall ready).applied ∧ (wall ready).formProposed = joined01 ∧
      ({ wall (inSession ready) with proposed := joined01 } : State).heldOpen 0 = true ∧
      (∀ g, ({ wall ready with proposed := joined01 } : State).affected g = true → (ready.group g).session ≠ .opened) ∧
      ({ ready with proposed := joined01 } : State).affected 0 = true ∧ ({ ready with proposed := joined01 } : State).affected 1 = true ∧
      ({ ready with proposed := joined01 } : State).affected 7 = false ∧
      (ready.wall 0).effective ≠ .opened ∧ (ready.wall 0).ends = none := by decide +kernel

theorem witness_Application : State.reset.applied.Canonical ∧ joined01.Canonical := by decide +kernel

/-- Group 0 of segments 0 and 1 cut into two pieces, and kept whole; a list and a set that share no seat, a mute that began and ended. -/
theorem witness_DivisionsAndFolds :
    let s := onAir 1 7 1 (waiting 0 2 (inSession ready))
    let held := s.setGroup 0 fun r => { r with hold := 1 }
    (allSegs.filter fun p => decide ((Topology.pieces joined01 Topology.single).entry p = p ∧ joined01.entry p = 0)) = [0, 1] ∧
      (allSegs.filter fun p => decide ((Topology.pieces joined01 joined01).entry p = p ∧ joined01.entry p = 0)) = [0] ∧
      (∀ i ∈ (s.group 0).waiting, i ∉ (s.group 0).openSet) ∧ s.openDelegates 0 = [1] ∧ (s.seat 1).slot = some 7 ∧
      (s.params 0).priorityMode = .muteWhileHeld ∧ 0 < (held.group 0).hold ∧ ¬ 0 < (s.group 0).hold := by decide +kernel

/-- The override stored and another; a wall that is effective OPEN, and one that is CLOSED with and without the ends named. -/
theorem witness_WallSettings :
    ready.Chief 0 ∧ (ready.wall 0).override = .follow ∧ (ready.wall 0).override ≠ .forceOpen ∧
      ((ready.setWall 0 fun r => { r with effective := .opened }).wall 0).effective = .opened ∧
      (ready.wall 0).effective = .closed ∧ (ready.wall 0).ends = none ∧ (ready.wall 0).ends ≠ some (0, 7) ∧
      (0 : Seg) < 7 := by decide +kernel

/-- Port 0 is the supervisor; port 1 chairs group 0 or nothing. -/
theorem witness_ConfirmAndCancel :
    let pending := ({ ready with regroup := .pending, proposed := joined01 } : State)
    let other := pending.setPort 1 fun r => { r with frame := .receiving }
    ready.Unfenced 0 ∧ ready.regroup = .inStep ∧ pending.Unfenced 0 ∧ pending.regroup = .pending ∧
      pending.applied.Canonical ∧ pending.proposed.Canonical ∧ other.Unfenced 1 ∧ other.supervisor ≠ 1 ∧
      (∀ g, other.affected g = true → other.chairAuth g ≠ 1) ∧
      ({ other with homePort := other.homePort.put 0 1 } : State).affected 0 = true ∧
      ({ other with homePort := other.homePort.put 0 1 } : State).chairAuth 0 = 1 := by decide +kernel

theorem witness_EffectiveParameters : ready.applied.isAnchor 0 = true := by decide +kernel

/-- SET1 is not selected; a choice above its last; a value stored and another; no anchor's parameters change by a field of SET2. -/
theorem witness_ProfileWrites :
    let own := port0 fun r => { r with load := .set2 }
    ready.Chief 0 ∧ ready.Ready 0 ∧ ready.select.entry 0 = .default ∧ ready.select.entry 0 ≠ .set1 ∧
      (ready.profile .default).write .floorMode 3 = none ∧
      (ready.profile .default).write .maxOpen 4 = some (ready.profile .default) ∧
      ((own.profile .set2).write .maxOpen 8).isSome ∧ own.Chief 0 ∧
      ∀ g, own.applied.isAnchor g = true →
        (own.setProfile .set2 { Profile.reset with maxOpen := 8 }).params g = own.params g := by decide +kernel

/-- A line with a seat WAITING, one on the air and a key held, to be forced. -/
theorem witness_EnumerateLine :
    let used := (waiting 63 1 (onAir 0 3 1 (inSession ready))).setSeat 2 fun q => { q with kind := .chair, keyHeld := true }
    used.Chief 0 ∧ (used.line 0).state = .down ∧ lineOf 0 = 0 ∧ (used.seat 0).floor = .opened ∧ used.groupOf 63 = some 0 ∧
      (used.seat 63).floor = .waiting ∧ (used.seat 2).keyHeld = true ∧
    ready.Chief 0 ∧ ((onLine fun r => { r with state := .verifying }).line 0).state = .verifying ∧
      (onLine fun r => { r with state := .verifying }).Chief 0 ∧ (∀ i, lineOf i = 0 → (ready.seat i).floor = .idle) ∧
      (waiting 63 1 ready).Chief 0 ∧ lineOf 63 = 0 ∧ ((waiting 63 1 ready).seat 63).floor ≠ .idle := by decide +kernel

/-- An acknowledge of address 64 with position 63; a line that is not ADDRESSING. -/
theorem witness_Addressing :
    let last := onLine fun r => { r with state := .addressing, position := 63 }
    (last.line 0).state = .addressing ∧ (64 : Byte).toNat = (last.line 0).position + 1 ∧ (ready.line 0).state ≠ .addressing ∧
      last.Chief 0 ∧ (onLine fun r => { r with state := .verifying }).Chief 0 ∧ ready.Chief 0 ∧
      (ready.line 0).state ≠ .verifying := by decide +kernel

/-- A chair's reply from address 1 with its key held, and the same reply with a damaged check; a seat that is UNUSED and IDLE. -/
theorem witness_SeatReplies :
    let running := onLine fun r => { r with state := .running }
    let known := running.setSeat 0 fun q => { q with link := .online, kind := .chair }
    (ready.line 0).state = .down ∧ (running.line 0).state = .running ∧ (running.line 0).poll = 1 ∧
      crc16 [1, 2, 3, 173, 173] = 0 ∧ crc16 [1, 2, 3, 173, 172] ≠ 0 ∧ (known.seat 0).link = .online ∧ (known.seat 0).kind = .chair ∧
      ((onLine fun r => { r with state := .verifying }).line 0).state = .verifying ∧ (running.seat 0).link ≠ .online ∧
      (running.seat 0).floor = .idle ∧ ∀ g, (0 : SeatId) ∉ (running.group g).waiting := by decide +kernel

theorem witness_MissedPolls :
    let running := onLine fun r => { r with state := .running, unitCount := 1 }
    let missed := (seated 0 (fun q => { q with link := .online, missed := 1 }) running)
    (running.line 0).state = .running ∧ (running.seat 0).link ≠ .online ∧ (missed.seat 0).missed = 1 ∧
      (missed.seat (seatAt 0 (missed.line 0).poll)).link = .online ∧ missed.groupOf 0 = some 0 ∧
      (0 : SeatId) ∉ (missed.group 0).waiting ∧ (running.line 0).unitCount ≤ (running.line 0).poll ∧
      ((onLine fun r => { r with unitCount := 2 }).line 0).poll < ((onLine fun r => { r with unitCount := 2 }).line 0).unitCount ∧
      ((onLine fun r => { r with state := .verifying, verifyRound := 1 }).line 0).verifyRound = 1 ∧
      ((onAir 0 7 1 missed).seat 0).floor = .opened ∧ ((onAir 0 7 1 missed).seat 0).missed = 1 ∧
      ((waiting 0 1 missed).seat 0).floor = .waiting ∧ ((waiting 0 1 missed).seat 0).missed = 1 := by decide +kernel

theorem witness_SeatConfiguration :
    let held := ready.setSeat 255 fun q => { q with kind := .chair, keyHeld := true }
    ready.Chief 0 ∧ (0 : Byte).toNat * 256 + (255 : Byte).toNat = (255 : SeatId).val ∧ (ready.seat 255).floor = .idle ∧
      (ready.seat 255).segment = none ∧ (ready.seat 255).segment ≠ some 7 ∧ (ready.seat 255).keyHeld = false ∧ held.Chief 0 ∧
      (held.seat 255).keyHeld = true ∧ (held.seat 255).kind = .chair ∧ (waiting 0 1 ready).Chief 0 ∧
      ((waiting 0 1 ready).seat 0).floor ≠ .idle := by decide +kernel

/-- The seat indexes 255 and 256; a fenced port; a port that is not the supervisor. -/
theorem witness_SeatConfiguration_trimAndMask :
    ready.Ready 0 ∧ ready.Chief 0 ∧ 255 < (1 : Byte).toNat * 256 + (0 : Byte).toNat ∧
      (0 : Byte).toNat * 256 + (255 : Byte).toNat = (255 : SeatId).val ∧ (port0 fun r => { r with fenced := true }).Ready 0 ∧
      ({ ready with supervisor := 1 } : State).Ready 0 ∧ ({ ready with supervisor := 1 } : State).supervisor ≠ 0 := by decide +kernel

/-- A seat to be promoted behind one whose line is full; no room; no free slot. -/
theorem witness_ArbiterAndPromotion :
    let s := waiting 3 1 (inSession ready)
    let split := waiting 64 2 (fullLine s)
    let narrow := withDefault (fun r => { r with maxOpen := 1 }) (onAir 1 0 2 s)
    (split.group 0).session = .opened ∧ (split.params 0).floorMode = .queue ∧ split.stamp < 4294967295 ∧
      (split.openDelegates 0).length < (split.params 0).maxOpen ∧ (split.group 0).waiting = [3] ++ 64 :: [] ∧
      (∀ j ∈ [(3 : SeatId)], split.freeSlot (lineOf j) = none) ∧ split.freeSlot (lineOf 64) = some 0 ∧
      (narrow.openDelegates 0).length ≥ (narrow.params 0).maxOpen ∧
      (∀ i ∈ ((fullLine s).group 0).waiting, (fullLine s).freeSlot (lineOf i) = none) ∧
    s.arbiterChoice 0 = some 3 ∧ s.groupOf 3 = some 0 ∧ s.slotClaimant 3 = true ∧ s.stamp < 4294967295 ∧
      ready.arbiterChoice 0 = none ∧ (s.promote 0).stamp = 2 ∧ ((s.promote 0).group 0).session = .opened ∧
      ((s.promote 0).openDelegates 0).length < ((s.promote 0).params 0).maxOpen := by decide +kernel

theorem witness_Sessions :
    ready.Chairs 0 0 ∧ (ready.group 0).session = .closed ∧ (inSession ready).Chairs 0 0 ∧
      ((inSession ready).group 0).session = .opened ∧ (inSession ready).regroup ≠ .pending := by decide +kernel

/-- Room for one more and none, the last stamp, a full line, a seat behind one whose line is full. -/
theorem witness_Grants :
    let s := waiting 0 1 (inSession ready)
    let narrow := withDefault (fun r => { r with maxOpen := 1 }) (onAir 1 0 2 s)
    let split := waiting 64 2 (fullLine s)
    s.Chairs 0 0 ∧ (s.group 0).session = .opened ∧ (s.group 0).waiting = [] ++ 0 :: [] ∧ s.stamp < 4294967295 ∧
      s.freeSlot (lineOf 0) = some 0 ∧ s.groupOf 0 = some 0 ∧ (s.seat 0).floor = .waiting ∧ s.groupOf 1 ≠ some 0 ∧
      (s.openDelegates 0).length < (s.params 0).maxOpen ∧ narrow.Chairs 0 0 ∧
      ¬ (narrow.openDelegates 0).length < (narrow.params 0).maxOpen ∧
      4294967295 ≤ ({ s with stamp := 4294967295 } : State).stamp ∧ (fullLine s).freeSlot (lineOf 0) = none ∧
      split.Chairs 0 0 ∧ (split.group 0).waiting = [0] ++ 64 :: [] ∧ split.freeSlot (lineOf 0) = none ∧
      split.freeSlot (lineOf 64) = some 0 := by decide +kernel

theorem witness_SeatCloses :
    let s := onAir 1 7 1 (waiting 0 2 (inSession ready))
    s.Chairs 0 0 ∧ (0 : Byte).toNat * 256 + (1 : Byte).toNat = (1 : SeatId).val ∧ s.groupOf 2 ≠ some 0 ∧ s.groupOf 1 = some 0 ∧
      (s.seat 1).floor = .opened ∧ (s.seat 0).floor = .waiting ∧ s.groupOf 0 = some 0 := by decide +kernel

theorem witness_BulkCloses :
    let s := onAir 1 7 1 (waiting 0 2 (inSession ready))
    ready.Chairs 0 0 ∧ (ready.group 0).session = .closed ∧ s.Chairs 0 0 ∧ (s.group 0).session = .opened ∧ 1 ∈ s.openDelegates 0 ∧
      1 ∉ (s.group 0).waiting ∧ 0 ∈ (s.group 0).waiting := by decide +kernel

/-- A delegate of group 0 by session, floor state, mask and stamp, and its request in each floor mode with and without room and slot. -/
theorem witness_DelegatePresses :
    let s := inSession (seated 0 id ready)
    let mode := fun m => withDefault (fun r => { r with floorMode := m })
    let grab := mode .override s
    let tight := withDefault (fun r => { r with floorMode := .override, maxOpen := 1 })
    s.groupOf 0 = some 0 ∧ (s.seat 0).kind = .delegate ∧ (s.seat 0).floor = .idle ∧ (s.seat 0).mask = false ∧ s.stamp < 4294967294 ∧
      (s.params 0).floorMode = .queue ∧ s.freeSlot 0 = some 0 ∧ (s.openDelegates 0).length < (s.params 0).maxOpen ∧
      ((mode .chair s).params 0).floorMode = .chair ∧ (grab.params 0).floorMode = .override ∧
      (fullLine grab).freeSlot 0 = none ∧ (fullLine grab).openDelegates 0 = [] ∧
      (onAir 1 7 1 (fullLine grab)).openDelegates 0 = [] ++ 1 :: [] ∧ lineOf 1 = lineOf 0 ∧
      ((onAir 1 7 1 (fullLine grab)).seat 1).slot = some 7 ∧ (onAir 1 7 1 (fullLine grab)).freeSlot 0 = none ∧
      ¬ ((tight (onAir 1 7 1 s)).openDelegates 0).length < ((tight (onAir 1 7 1 s)).params 0).maxOpen ∧
      (tight (onAir 64 7 1 s)).openDelegates 0 = 64 :: [] ∧ lineOf 64 ≠ lineOf 0 ∧
      (tight (onAir 64 7 1 s)).freeSlot 0 = some 0 ∧ (tight (onAir 64 7 1 s)).stamp + 2 < 4294967295 ∧
      (s.group 0).waiting.length < 48 ∧ ({ s with stamp := 4294967294 } : State).stamp = 4294967294 := by decide +kernel

theorem witness_DelegatePresses_floor :
    ((inSession (waiting 0 1 ready)).seat 0).floor = .waiting ∧ ((inSession (onAir 0 0 1 ready)).seat 0).floor = .opened ∧
      ((seated 0 (fun q => { q with mask := true }) ready).seat 0).mask = true ∧
      ((seated 0 id ready).group 0).session = .closed ∧
      48 ≤ ((inSession (seated 0 id (ready.setGroup 0 fun r => { r with waiting := List.replicate 48 100 }))).group 0).waiting.length :=
  by decide +kernel

/-- A chair of group 0 with a free slot, with a line of chairs, and with one delegate to pre-empt. -/
theorem witness_ChairPresses :
    let chair := seated 0 fun q => { q with kind := .chair }
    let s := inSession (chair ready)
    let full := onAir 5 7 1 (fullLine s)
    let chairs := full.setSeat 5 fun q => { q with kind := .chair }
    let quiet := ({ chairs with seats := chairs.seats.mapEntries fun _ q => { q with kind := .chair } } : State)
    let one := ({ full with seats := full.seats.mapEntries fun i q => if i = 5 then q else { q with kind := .chair } } : State)
    (ready.seat 0).segment = none ∧ (chair ready).groupOf 0 = some 0 ∧ ((chair ready).seat 0).kind = .chair ∧
      ((chair ready).group 0).session = .closed ∧
      s.groupOf 0 = some 0 ∧ (s.seat 0).kind = .chair ∧ (s.group 0).session = .opened ∧ (s.seat 0).floor = .idle ∧
      s.stamp < 4294967295 ∧ s.freeSlot (lineOf 0) = some 0 ∧ quiet.freeSlot (lineOf 0) = none ∧ quiet.delegatesOn 0 = [] ∧
      one.freeSlot (lineOf 0) = none ∧ (one.line (lineOf 0)).slots.entry 7 = some 5 ∧ (one.seat 5).kind = .delegate ∧
      (one.seat 5).slot = some 7 ∧ one.groupOf 5 = some 0 ∧ one.delegatesOn 0 = [5] ∧ one.groupOf 0 = some 0 ∧
      (one.group 0).session = .opened ∧ (one.seat 0).floor = .idle := by decide +kernel

theorem witness_PriorityKeys :
    let cancel := withDefault (fun r => { r with priorityMode := .cancelAll })
    (ready.params 0).priorityMode = .muteWhileHeld ∧ ((cancel ready).params 0).priorityMode = .cancelAll ∧
      ((cancel ready).group 0).session = .closed ∧ ((cancel (inSession ready)).group 0).session = .opened ∧
      ∀ i, (ready.seat i).floor ≠ .waiting := by decide +kernel

/-- Timers one second before, at and after each judgment: a lead of 30 s, a limit of 40 s. -/
theorem witness_SpeakingTime :
    let timed := fun n p => (onAir 0 0 1 (inSession ready)).setSeat 0 fun q =>
      { q with timer := some { limit := 40, elapsed := n, phase := p } }
    ((timed 8 .running).seat 0).timer = some { limit := 40, elapsed := 8, phase := .running } ∧
      ((timed 8 .running).params 0).warnLead = 30 ∧ 30 < 40 - (min (8 + 1) 65535) ∧ 40 - (min (9 + 1) 65535) = 30 ∧
      40 - (min (39 + 1) 65535) = 0 ∧ ((timed 8 .running).params 0).limitAction = .warn ∧
      ((withDefault (fun r => { r with limitAction := .close }) ready).params 0).limitAction = .close ∧
      (timed 8 .running).Unfenced 0 ∧ (timed 8 .running).groupOf 0 = some 0 ∧ (timed 8 .running).chairAuth 0 = 0 ∧
      ((timed 8 .running).seat 0).floor = .opened ∧ ((timed 8 .running).seat 0).kind = .delegate ∧
      (ready.seat 1).segment = none ∧ (0 : Byte).toNat * 256 + (0 : Byte).toNat = (0 : SeatId).val ∧
      (14 : Byte).toNat * 256 + (16 : Byte).toNat = 3600 ∧ (14 : Byte).toNat * 256 + (17 : Byte).toNat > 3600 := by decide +kernel

theorem witness_Snapshots :
    let latched := port0 fun r => { r with snapshot := some { anchor := 0, entries := [], returned := 0 } }
    ready.Ready 0 ∧ ready.applied.isAnchor 7 = true ∧ (ready.port 0).snapshot = none ∧ latched.Ready 0 ∧
      (latched.port 0).snapshot ≠ none := by decide +kernel

/-- The booths 9 and 10 about the roving ones; a home and another; bindings the same and changed under a LIVE desk. -/
theorem witness_BoothConfiguration :
    let live := ready.setBooth 9 fun r => { r with live := some 0, langA := some 1 }
    let interp := ({ ready.setPort 1 fun r => { r with frame := .receiving } with interpPort := 1 } : State)
    ready.Unfenced 0 ∧ ready.supervisor = 0 ∧ interp.Unfenced 1 ∧ interp.supervisor ≠ 1 ∧ interp.interpAuth = 1 ∧
      (9 : BoothId).val < 10 ∧ 10 ≤ (10 : BoothId).val ∧ live.Unfenced 0 ∧ (live.booth 9).live ≠ none ∧ (ready.booth 9).live = none ∧
      (ready.booth 9).home = none ∧ (ready.booth 9).home ≠ some 7 ∧ ready.interpAuth = 0 ∧ (live.booth 9).langA ≠ some 63 ∧
      (live.booth 9).lang ((live.booth 9).desk 0).selected = some 1 ∧ (ready.booth 9).langB = none := by decide +kernel

/-- A roving booth whose desk stays LIVE on an ACTIVE output through a change of home. -/
theorem witness_BoothConfiguration_live :
    let live := ready.setBooth 10 fun r => { r with online := true, home := some 0, langA := some 1, live := some 0 }
    let moved := State.recomputeRoles (live.setBooth 10 fun r => { r with home := some 7 })
    live.Unfenced 0 ∧ live.interpAuth = 0 ∧ (live.booth 10).home ≠ some 7 ∧ (live.booth 10).live = some 0 ∧
      (moved.booth 10).role ((moved.booth 10).desk 0).selected = .active ∧ (moved.booth 10).live = some 0 := by decide +kernel

theorem witness_RelaySelections :
    let s := booth0 id
    (ready.booth 0).online = false ∧ (s.booth 0).online = true ∧ s.Interp 0 ∧ s.relayLoops 0 (some 0) = true ∧
      s.relayLoops 0 (some 11) = false ∧ ((s.booth 0).desk 2).relay = none := by decide +kernel

/-- Runs of 4798 and 4799 missing frames; a booth OFFLINE; both clock states. -/
theorem witness_BoothFrames :
    ((booth0 fun r => { r with run := 4798 }).booth 0).run < 4799 ∧ ((booth0 fun r => { r with run := 4799 }).booth 0).online = true ∧
      4799 ≤ ((booth0 fun r => { r with run := 4799 }).booth 0).run ∧ (ready.booth 0).online = false ∧
      (ready.booth 0).run < 4799 ∧ ready.clocked = false ∧ ({ booth0 id with clocked := true } : State).clocked = true ∧
      upFrameOf 0 [1, 0, 0, 0, 0] = none ∧ upFrameOf 0 [0, 255, 0, 0, 1] = some { source := none, sample := 1 } := by decide +kernel

/-- R103: a desk LIVE on an ACTIVE output with a language is a live output; on a STANDBY output it is none. -/
theorem test_liveOutputs :
    let on := fun role => (booth0 fun r => { r with home := some 0, langA := some 5, roleA := role, live := some 2 }).liveOutputs
    on .active = [(⟨0, 5⟩, 0)] ∧ on .standby = [] := by decide +kernel

/-- A desk by role and mode, a desk LIVE, and desk events that pass and fail each check. -/
theorem witness_DeskKeys :
    let active := booth0 fun r => { r with roleA := .active }
    let other := booth0 fun r => { r with roleA := .active, live := some 1 }
    (ready.booth 0).online = false ∧ (active.booth 0).online = true ∧ (active.booth 0).live ≠ some 0 ∧
      (active.booth 0).role ((active.booth 0).desk 0).selected = .active ∧ (other.booth 0).live ≠ none ∧
      (other.booth 0).mode = .lockout ∧ (other.booth 0).live = some 1 ∧ (other.booth 0).role .b ≠ .active ∧
      ((booth0 fun r => { r with roleA := .standby }).booth 0).roleA = .standby ∧ (active.booth 0).roleB = .unrouted ∧
      crc16 [0, 0, 1, 0, 183, 241] = 0 ∧ crc16 [0, 0, 1, 0, 183, 240] ≠ 0 ∧ crc16 [0, 2, 2, 1, 156, 227] = 0 ∧
      crc16 [0, 0, 3, 255, 207, 99] = 0 ∧ crc16 [0, 0, 3, 11, 96, 248] = 0 ∧ crc16 [0, 0, 3, 12, 16, 31] = 0 := by decide +kernel

/-- A list of 11 and of 12 languages, a language in it and one that is not, channels 31 and 32. -/
theorem witness_LanguageCommands :
    let list := fun n => ready.setGroup 0 fun r => { r with langs := List.replicate n 1 }
    ready.Interp 0 ∧ ready.applied.isAnchor 0 = true ∧ (1 : Lang) ≠ 0 ∧ (63 : Lang) ∉ ((list 11).group 0).langs ∧
      ((list 11).group 0).langs.length < 12 ∧ 12 ≤ ((list 12).group 0).langs.length ∧ (1 : Lang) ∈ ((list 12).group 0).langs ∧
      31 < (32 : Byte).toNat ∧ (ready.channel 31).owner = none ∧
      ((ready.setChannel 31 fun r => { r with owner := some ⟨0, 0⟩ }).channel 31).owner = some ⟨0, 0⟩ := by decide +kernel

theorem witness_ChannelService :
    let full := ({ ready with channels := ready.channels.mapEntries fun _ r => { r with owner := some ⟨0, 1⟩ } } : State)
    (ready.channel 0).owner = none ∧ (∀ c, (full.channel c).owner ≠ none) ∧ ready.waitQueue = [] ∧
      ({ full with waitQueue := [⟨0, 2⟩] } : State).waitQueue = ⟨0, 2⟩ :: [] ∧ (full.channel 31).owner = some ⟨0, 1⟩ := by
  decide +kernel

theorem witness_MixFrame :
    ready.clocked = false ∧ ({ ready with clocked := true } : State).clocked = true ∧ (ready.channel 0).owner = none := by
  decide +kernel

theorem witness_GainArithmetic : (191 : Int) < 192 ∧ (-13 : Int) < -12 ∧ linearGain 191 = 17358 >>> 15 := by decide

theorem witness_Targets :
    let s := onAir 0 7 1 (inSession ready)
    (s.line 0).slots.entry 7 = some 0 ∧ (s.line 0).slots.entry 6 = none ∧ s.groupOf 0 = some 0 ∧ (s.seat 0).floor = .opened ∧
      (s.group 0).fader = .steps 0 ∧ ready.Chairs 0 0 ∧ (∀ i, (ready.seat i).floor = .idle) ∧
      4294967295 ≤ ({ ready with stamp := 4294967295 } : State).stamp ∧ ready.stamp < 4294967295 := by decide +kernel

theorem witness_BlockReads : ready.Ready 0 ∧ ready.applied.isAnchor 7 = true := by decide +kernel

/-- The reset values; and a timeout of 60 s whose timer has just started. -/
theorem witness_PortsKept :
    let runs := port0 fun r => { r with timeout := 60, timer := some 60000, queue := [⟨.clockLost, none, .none, none⟩] }
    ready.SupervisorFree ∧ ready.PortsBounded ∧ runs.PortsBounded ∧ ready.FramesFormed ∧ step runs = .next runs.tick := by
  refine ⟨by unfold State.SupervisorFree; decide +kernel, by unfold State.PortsBounded; decide +kernel,
    by unfold State.PortsBounded; decide +kernel, fun p _ => by
      have h : (ready.port p).stored = [] := by revert p; decide +kernel
      rw [h]; trivial, rfl⟩

theorem witness_HallKept : ready.TopologyFormed ∧ ready.WallsFormed := by
  unfold State.TopologyFormed State.WallsFormed Wall.settleFormed Wall.effectiveFormed
  refine ⟨by decide +kernel, fun w => ?_⟩
  have h : ready.wall w = Wall.reset := by revert w; decide +kernel
  rw [h]
  refine ⟨by decide +kernel, by decide, by decide, ?_, ?_, ?_⟩
  · intro e he
    simp [Wall.reset] at he
  · simp [Wall.reset]
  · simp [Wall.reset]

theorem witness_BoothsKept : ready.RelayAcyclic ∧ ready.InterpFormed := by
  have none : ∀ x y, ready.relayEdge x y = false := by decide +kernel
  refine ⟨fun b h => ?_, fun b => ⟨fun o => by cases o <;> (revert b; decide +kernel), ?_, ?_⟩⟩
  · cases h with
    | single h => simp [none] at h
    | tail _ h => simp [none] at h
  · revert b; decide +kernel
  · revert b; decide +kernel

theorem witness_TargetsKept : ready.TargetsFormed ∧ ready.Settled := by
  unfold State.TargetsFormed State.Settled
  decide +kernel

/-- Group 0 in session on a RUNNING line: seat 1 OPEN in slot 7, seat 0 WAITING behind it. -/
def meeting : State :=
  let online := fun q : Seat => { q with link := .online }
  let s := (inSession (onLine fun r => { r with state := .running })).setChannel 0 fun _ =>
    { owner := some ⟨0, 0⟩, level := .steps 0, content := .floor, boothInput := none }
  let s := onAir 1 7 2 ((s.setSeat 0 online).setSeat 1 online)
  let s := s.setSeat 1 fun q => { q with requestStamp := some 1, timer := some ⟨0, 0, .untimed⟩ }
  { waiting 0 3 s with stamp := 4 }

/-- A seat of `meeting`. -/
theorem meeting_seat (i : SeatId) :
    meeting.seat i =
      if i = 0 then
        { Seat.reset with segment := some 0, link := .online, floor := .waiting, requestStamp := some 3 }
      else if i = 1 then
        { Seat.reset with
          segment := some 0, link := .online, floor := .opened, slot := some 7, requestStamp := some 1, grantStamp := some 2
          timer := some ⟨0, 0, .untimed⟩ }
      else Seat.reset := by
  revert i; decide +kernel

theorem meeting_request (i : SeatId) (n : Nat) (h : (meeting.seat i).requestStamp = some n) : i = 0 ∧ n = 3 ∨ i = 1 ∧ n = 1 := by
  rw [meeting_seat] at h
  split at h
  · exact .inl ⟨‹_›, by simpa using h.symm⟩
  split at h
  · exact .inr ⟨‹_›, by simpa using h.symm⟩
  · simp [Seat.reset] at h

theorem meeting_grant (i : SeatId) (n : Nat) (h : (meeting.seat i).grantStamp = some n) : i = 1 ∧ n = 2 := by
  rw [meeting_seat] at h
  split at h
  · simp [Seat.reset] at h
  split at h
  · exact ⟨‹_›, by simpa using h.symm⟩
  · simp [Seat.reset] at h

theorem witness_FloorKept : meeting.TopologyFormed ∧ meeting.FloorFormed ∧ step meeting = .next meeting.tick := by
  refine ⟨by unfold State.TopologyFormed; decide +kernel, ⟨fun g => ?_, fun i => ?_, ?_, fun l k i => ?_⟩, rfl⟩
  · unfold State.CollectionsFormed
    revert g; decide +kernel
  · refine ⟨fun h => ?_, by revert i; decide +kernel⟩
    have open0 : (meeting.group 0).session = .opened := by decide +kernel
    have rest : ∀ i, (meeting.seat i).floor ≠ .idle → meeting.groupOf i = some 0 ∧ (meeting.seat i).link = .online ∧
      (meeting.line (lineOf i)).state = .running := by decide +kernel
    exact ⟨⟨0, (rest i h).1, open0⟩, (rest i h).2⟩
  · have stamp : meeting.stamp = 4 := rfl
    refine ⟨by omega, by omega, fun i n h => ?_, fun i j n hi hj => ?_, fun i j n hi hj => ?_⟩
    · rcases h with h | h
      · have := meeting_request i n h; omega
      · have := meeting_grant i n h; omega
    · rcases meeting_request i n hi with ⟨rfl, rfl⟩ | ⟨rfl, rfl⟩ <;> rcases meeting_request j _ hj with ⟨rfl, h⟩ | ⟨rfl, h⟩ <;>
        first | rfl | omega
    · exact (meeting_grant i n hi).1.trans (meeting_grant j n hj).1.symm
  · revert l k i; decide +kernel

theorem witness_ChannelsKept : meeting.TopologyFormed ∧ meeting.ChannelsFormed := by
  have owner : ∀ c, (meeting.channel c).owner = if c = 0 then some ⟨0, 0⟩ else none := by decide +kernel
  have queue : meeting.waitQueue = [] := rfl
  have slots : ∀ g, (meeting.group g).session = .opened → g = 0 := by decide +kernel
  have langs : ∀ l, l ∈ meeting.slotLangs 0 → l = 0 := by decide +kernel
  refine ⟨by unfold State.TopologyFormed; decide +kernel, by decide +kernel, by decide +kernel, fun c n h => ?_, by decide +kernel,
    by simp [queue], by simp [queue], fun n h => ?_, by simp [queue]⟩
  · rw [owner] at h
    split at h
    · subst c
      cases h
      exact ⟨⟨by decide +kernel, by decide +kernel⟩, by decide +kernel, by decide +kernel, by decide +kernel⟩
    · cases h
  · obtain ⟨g, l⟩ := n
    obtain rfl := slots g h.1
    obtain rfl := langs l h.2
    exact .inl ⟨0, by simp [owner]⟩

end Sys2Proof.Tests
end

section
/-! PROOFS. The effective parameters of a group (R21). -/

namespace Sys2Proof.Machine

namespace Topology

theorem isAnchor_iff (t : Topology) (g : Seg) : t.isAnchor g = true ↔ t.entry g = g := beq_iff_eq

theorem mem_members (t : Topology) (g x : Seg) : x ∈ t.members g ↔ t.entry x = g := by
  simp [members, allSegs]

end Topology

namespace State

variable (s : State) (g : Seg)

/-- Only max_open is taken from another profile than the anchor's. -/
theorem params_with_own_maxOpen : { s.params g with maxOpen := (s.selected g).maxOpen } = s.selected g := rfl

/-- The fold that gives the effective max_open is the minimum of a list, so the library's lemmas on `List.min` apply to it. -/
theorem params_maxOpen_eq_min :
    (s.params g).maxOpen =
      ((s.selected g).maxOpen :: (s.applied.members g).map fun x => (s.selected x).maxOpen).min (List.cons_ne_nil _ _) :=
  List.foldl_map.symm

theorem params_maxOpen_le {x : Seg} (hx : s.applied.entry x = g) : (s.params g).maxOpen ≤ (s.selected x).maxOpen := by
  rw [params_maxOpen_eq_min]
  have member : x ∈ s.applied.members g := (Topology.mem_members ..).mpr hx
  exact List.min_le_of_mem (List.mem_cons_of_mem _ (List.mem_map_of_mem member))

/-- The fold starts from the anchor's own max_open; as the anchor is a member, the minimum is always a member's. -/
theorem exists_params_maxOpen_eq (anchor : s.applied.isAnchor g = true) :
    ∃ x, s.applied.entry x = g ∧ (s.params g).maxOpen = (s.selected x).maxOpen := by
  rw [params_maxOpen_eq_min]
  rcases List.mem_cons.mp (List.min_mem (List.cons_ne_nil (s.selected g).maxOpen _)) with own | other
  · exact ⟨g, (Topology.isAnchor_iff ..).mp anchor, own⟩
  · obtain ⟨x, hx, hmin⟩ := List.mem_map.mp other
    exact ⟨x, (Topology.mem_members ..).mp hx, hmin.symm⟩

end State

/-- Settles O27: the effective max_open bounds each member's from below and is one of theirs; the other fields are the anchor's. -/
theorem effectiveParameters : Obligations.EffectiveParameters := fun s g anchor =>
  ⟨fun _ hx => s.params_maxOpen_le g hx, s.exists_params_maxOpen_eq g anchor, s.params_with_own_maxOpen g⟩

end Sys2Proof.Machine
end

section
/-! PROOFS. Linear gains, the ramp and the rounding of a sum (R155, R156, R159). -/

namespace Sys2Proof.Machine

/-! ## Linear gains (R155) -/

theorem linearGain_of_gt {total : Int} (h : 191 < total) : linearGain total = 0 := if_pos h

/-- A total in the range of the table: its row by the remainder, halved by the quotient. -/
theorem linearGain_natCast {n : Nat} (h : n ≤ 191) : linearGain n = gainTable.getD (n % 12) 0 >>> (n / 12) := by
  have inRange : ¬ (n : Int) > 191 := by omega
  have unclamped : max (-12) (n : Int) = n := by omega
  have nonneg : (0 : Int) ≤ n := n.cast_nonneg
  simp only [linearGain, inRange, unclamped, nonneg, if_true, if_false, Int.toNat_natCast]

/-- A total of 12 q + k reads row k of the table, shifted by q. -/
theorem linearGain_mul_add (q : Fin 16) (k : Fin 12) :
    linearGain (12 * q.val + k.val) = gainTable.getD k.val 0 >>> q.val := by
  have row := linearGain_natCast (n := 12 * q.val + k.val) (by omega)
  have remainder : (12 * q.val + k.val) % 12 = k.val := by omega
  have quotient : (12 * q.val + k.val) / 12 = q.val := by omega
  rw [remainder, quotient] at row
  exact_mod_cast row

/-- Below 0 the total is clamped at −12, and its row 12 steps up is doubled. -/
theorem linearGain_of_neg {total : Int} (h : total < 0) :
    linearGain total = 2 * gainTable.getD (max (-12) total + 12).toNat 0 := by
  have inRange : ¬ total > 191 := by omega
  have negative : ¬ 0 ≤ max (-12) total := by omega
  simp only [linearGain, inRange, negative, if_false]

theorem linearGain_sub_twelve (k : Fin 12) : linearGain ((k.val : Int) - 12) = 2 * gainTable.getD k.val 0 := by
  have row : (max (-12) ((k.val : Int) - 12) + 12).toNat = k.val := by omega
  rw [linearGain_of_neg (by omega), row]

theorem linearGain_of_lt {total : Int} (h : total < -12) : linearGain total = 65536 := by
  have row : (max (-12) total + 12).toNat = 0 := by omega
  rw [linearGain_of_neg (by omega), row]
  rfl

/-! ## The ramp (R156) -/

namespace GainPoint

variable {g : GainPoint}

@[simp] theorem ramp_target (g : GainPoint) : g.ramp.target = g.target := by
  unfold ramp
  split <;> rfl

theorem ramp_applied_of_le (h : g.applied ≤ g.target) :
    g.ramp.applied = g.applied + min (g.target - g.applied) 1024 := by
  rw [ramp, if_pos h]

theorem ramp_applied_of_ge (h : g.target ≤ g.applied) :
    g.ramp.applied = g.applied - min (g.applied - g.target) 1024 := by
  rcases h.lt_or_eq with above | reached
  · rw [ramp, if_neg (by omega)]
  · rw [ramp_applied_of_le (by omega)]
    omega

theorem ramp_of_reached (h : g.applied = g.target) : g.ramp = g := by
  obtain ⟨target, applied⟩ := g
  obtain rfl : applied = target := h
  simp [ramp]

/-- One ramp step takes 1024 off the distance: a reach of n steps after it is a reach of n + 1 steps before it. -/
theorem ramp_within_iff (g : GainPoint) (n : Nat) :
    (g.target ≤ g.ramp.applied + 1024 * n ∧ g.ramp.applied ≤ g.target + 1024 * n) ↔
      g.target ≤ g.applied + 1024 * (n + 1) ∧ g.applied ≤ g.target + 1024 * (n + 1) := by
  rcases Nat.le_total g.applied g.target with below | above
  · rw [ramp_applied_of_le below]
    omega
  · rw [ramp_applied_of_ge above]
    omega

/-- An applied gain reaches its target in n frames if and only if n steps of 1024 cover the distance. -/
theorem iterate_ramp_reached_iff (g : GainPoint) (n : Nat) :
    (ramp^[n] g).applied = g.target ↔ g.target ≤ g.applied + 1024 * n ∧ g.applied ≤ g.target + 1024 * n := by
  induction n generalizing g with
  | zero =>
    rw [Function.iterate_zero_apply]
    omega
  | succ n ih =>
    calc (ramp^[n + 1] g).applied = g.target
      _ ↔ (ramp^[n] g.ramp).applied = g.ramp.target := by rw [Function.iterate_succ_apply, ramp_target]
      _ ↔ g.target ≤ g.ramp.applied + 1024 * n ∧ g.ramp.applied ≤ g.target + 1024 * n := by rw [ih, ramp_target]
      _ ↔ g.target ≤ g.applied + 1024 * (n + 1) ∧ g.applied ≤ g.target + 1024 * (n + 1) := g.ramp_within_iff n

end GainPoint

/-! ## Rounding and saturation (R159) -/

/-- The shift rounds toward minus infinity: the result is the whole quotient of the sum plus one half. -/
theorem roundOff_bounds (x : Int) : 32768 * roundOff x ≤ x + 16384 ∧ x + 16384 < 32768 * (roundOff x + 1) := by
  unfold roundOff
  omega

theorem saturate_eq_ite (x : Int) :
    saturate x = if x < -8388608 then -8388608 else if 8388607 < x then 8388607 else x := by
  unfold saturate
  split_ifs <;> omega

/-- A saturated result fits in the 24 bits of a sample. -/
theorem toSample_toInt (x : Int) : (toSample x).toInt = saturate x := by
  obtain ⟨lower, upper⟩ : -8388608 ≤ saturate x ∧ saturate x < 8388608 := by
    unfold saturate
    omega
  exact BitVec.toInt_ofInt_eq_self (by decide) lower upper

/-- Settles O51: the rows of the gain table, the ramp by induction on the frames, and the saturated result within 24 bits. -/
theorem gainArithmetic : Obligations.GainArithmetic :=
  ⟨⟨fun _ => linearGain_of_gt, fun _ => linearGain_of_lt, linearGain_mul_add, linearGain_sub_twelve⟩,
    fun g => ⟨g.ramp_target, GainPoint.ramp_of_reached, GainPoint.ramp_applied_of_le, GainPoint.ramp_applied_of_ge,
      g.iterate_ramp_reached_iff⟩,
    fun x => ⟨roundOff_bounds x, (toSample_toInt x).trans (saturate_eq_ite x)⟩⟩

end Sys2Proof.Machine
end

section
/-! PROOFS. The presence timeout (R171). -/

namespace Sys2Proof.Machine

/-! ## The checks of a rule, passed and refused (R166) -/

@[simp] theorem refuseIf_true (c : ResultCode) : refuseIf true c = .error c := rfl

@[simp] theorem refuseIf_false (c : ResultCode) : refuseIf false c = .ok () := rfl

@[simp] theorem need_some {α : Type} (x : α) (c : ResultCode) : need (some x) c = .ok x := rfl

@[simp] theorem need_none {α : Type} (c : ResultCode) : need (none : Option α) c = .error c := rfl

/-- A check that is passed hands its value to the rest of the rule. -/
@[simp] theorem ok_bind {ε α β : Type} (x : α) (f : α → Except ε β) : (Except.ok x >>= f) = f x := rfl

/-- A check that refuses ends the rule with its code. -/
@[simp] theorem error_bind {ε α β : Type} (c : ε) (f : α → Except ε β) :
    ((Except.error c : Except ε α) >>= f) = .error c := rfl

theorem item?_eq_none {k n : Nat} (h : k ≤ n) : item? k n = none := dif_neg (by omega)

theorem State.notFenced_refused {s : State} {p : PortId} (h : (s.port p).fenced = true) :
    s.notFenced p = .error .fenced := by
  rw [State.notFenced, h, refuseIf_true]

/-! ## SET_PRESENCE_TIMEOUT judged in order (R171) -/

/-- The stored timeout and the timer, case by case: off, PRESENT with notices waiting, and otherwise as it was. -/
theorem Port.storeTimeout_eq (n : Nat) (r : Port) :
    r.storeTimeout n =
      { r with
        timeout := n
        timer := if n = 0 then none else if r.present = true ∧ r.queue ≠ [] then some (n * 1000) else r.timer } := by
  simp [Port.storeTimeout, Port.attention, Config.second]

section

variable {s : State} {p q : PortId} {b n : Byte}

theorem exec_setPresenceTimeout_ready (params : List Byte) (h : s.Ready p) :
    exec (.setPresenceTimeout p params) s = .next (s.answer p (ruleSetPresenceTimeout p params s)) :=
  congrArg _ (s.take_ready p _ h)

/-- The fence is judged first. -/
theorem ruleSetPresenceTimeout_fenced (fenced : (s.port p).fenced = true) :
    ruleSetPresenceTimeout p [b, n] s = .error .fenced := by
  simp only [ruleSetPresenceTimeout, State.notFenced_refused fenced, error_bind]

/-- The authority is judged ahead of the port number and the timeout. -/
theorem ruleSetPresenceTimeout_notAuthority (unfenced : (s.port p).fenced = false) (other : s.supervisor ≠ p)
    (foreign : b.toNat ≠ p.val) : ruleSetPresenceTimeout p [b, n] s = .error .notAuthority := by
  have refused : (s.supervisor != p && decide (b.toNat ≠ p.val)) = true := by simp [other, foreign]
  simp only [ruleSetPresenceTimeout, s.notFenced_ok p unfenced, refused, refuseIf_true, ok_bind, error_bind]

/-- From the supervisor or from the named port the parameters are judged: the port number, then the timeout. -/
theorem ruleSetPresenceTimeout_authorized (unfenced : (s.port p).fenced = false)
    (authority : s.supervisor = p ∨ b.toNat = p.val) :
    ruleSetPresenceTimeout p [b, n] s = do
      let q ← need (item? 4 b.toNat) .noSuch
      refuseIf (decide (60 < n.toNat)) .badParam
      return { state := s.setPort q (Port.storeTimeout n.toNat) } := by
  have passed : (s.supervisor != p && decide (b.toNat ≠ p.val)) = false := by
    rcases authority with chief | own
    · simp [chief]
    · simp [own]
  simp only [ruleSetPresenceTimeout, s.notFenced_ok p unfenced, passed, refuseIf_false, ok_bind]

theorem ruleSetPresenceTimeout_noSuch (unfenced : (s.port p).fenced = false) (chief : s.supervisor = p)
    (above : 3 < b.toNat) : ruleSetPresenceTimeout p [b, n] s = .error .noSuch := by
  rw [ruleSetPresenceTimeout_authorized unfenced (.inl chief), item?_eq_none above, need_none, error_bind]

/-- With a port named, only the timeout is left to judge. -/
theorem ruleSetPresenceTimeout_named (unfenced : (s.port p).fenced = false) (named : b.toNat = q.val)
    (authority : s.supervisor = p ∨ q = p) :
    ruleSetPresenceTimeout p [b, n] s =
      if 60 < n.toNat then .error .badParam else .ok { state := s.setPort q (Port.storeTimeout n.toNat) } := by
  have own : s.supervisor = p ∨ b.toNat = p.val := authority.imp_right fun h => named.trans (congrArg Fin.val h)
  rw [ruleSetPresenceTimeout_authorized unfenced own, named, item?_val, need_some, ok_bind]
  by_cases long : 60 < n.toNat
  · simp only [long, decide_true, refuseIf_true, error_bind, if_true]
  · simp only [long, decide_false, refuseIf_false, ok_bind, if_false]
    rfl

end

/-- Settles O12: the rule's outcome under the fence, the authority and the two parameters, in the order of R171. -/
theorem presenceTimeout : Obligations.PresenceTimeout := by
  intro s p b n ready
  rw [exec_setPresenceTimeout_ready _ ready]
  refine ⟨fun fenced => ?fenced, fun unfenced =>
    ⟨fun other foreign => ?notAuthority, fun chief above => ?noSuch, fun q named authority =>
      ⟨fun long => ?badParam, fun short => ?stored⟩⟩⟩
  case fenced => rw [ruleSetPresenceTimeout_fenced fenced, State.answer]
  case notAuthority => rw [ruleSetPresenceTimeout_notAuthority unfenced other foreign, State.answer]
  case noSuch => rw [ruleSetPresenceTimeout_noSuch unfenced chief above, State.answer]
  case badParam => rw [ruleSetPresenceTimeout_named unfenced named authority, if_pos long, State.answer]
  case stored =>
    rw [ruleSetPresenceTimeout_named unfenced named authority, if_neg (by omega), State.answer,
      funext (Port.storeTimeout_eq n.toNat)]

end Sys2Proof.Machine
end
